-- ==== Sys2Proof/Word.lean ====
section
/-! DEFINITION. The two word sizes of the core: the memory byte and general register (`10_state.md` R15), and the 16-bit
register pair, PC, SP and address (`10_state.md` R17, R22, R23; `20_memory.md` R38). -/

namespace Sys2Proof

/-- An 8-bit value: a general register, the flag register, a memory byte, an immediate `n8` or `e8`. -/
abbrev Byte := BitVec 8

/-- A 16-bit value: a register pair, PC, SP, an address, an immediate `n16` or `nn`. -/
abbrev Word := BitVec 16

end Sys2Proof
end

