-- ==== Sys2Proof/Config.lean ====
section
/-! DEFINITION. What an implementation fixes and the spec leaves open (`00_scope.md` R6, `92_eei_decisions.md` "Parameters a
model takes as arguments"). Each is a constant with no body, so no proof can see a value of it. The costs of `CYCLE_TABLE`
stand with the instructions (log 5); the ROM is an argument of the load (`Machine/HostInterface.lean`). -/

namespace Sys2Proof

/-- The two values of `UNIMPL_POLICY` (`43_misc.md` R151, `92_eei_decisions.md` D6). -/
inductive UnimplPolicy where
  /-- record the opcode and go on -/
  | record
  /-- set the fault mark and end the run -/
  | fatal
  deriving DecidableEq, Repr, Inhabited

/-- `UNIMPL_POLICY`, OPEN in the spec (`00_scope.md` R6, D6). DESIGN CHOICE: a constant nothing can evaluate, so that a claim
holds under both policies (log 1; safe). -/
opaque Config.unimplPolicy : UnimplPolicy

/-- `UNIMPL_CYCLES`, OPEN in the spec: a draw per occurrence, under no law (`00_scope.md` R6, D7). A free value: the cost of
the `k`-th occurrence (log 2; safe). -/
opaque Config.unimplCycles : Nat → Nat

/-- `CYCLES_PER_FRAME` less one, OPEN in the spec (`00_scope.md` R6, D21; log 22, safe). -/
opaque Config.cyclesPerFrameLessOne : Nat

/-- `CYCLES_PER_FRAME`: a POSITIVE natural number of the host loop (`00_scope.md` R6, `60_exceptions.md` R189). -/
def Config.cyclesPerFrame : Nat := Config.cyclesPerFrameLessOne + 1

end Sys2Proof
end

