-- ==== Sys2Proof/Syntax.lean ====
section
/-! DEFINITION. The instructions: one constructor for each mnemonic of the opcode table (`30_encoding.md` R73), in the table's
order. A constructor carries only what the encoding leaves free: an immediate byte `n`, an offset byte `e` (read as signed by
the instruction), a 16-bit immediate `nn` (R63), or the byte of an opcode with no instruction (R66). In the names, `hlInd`,
`bcInd`, `deInd` and `nnInd` are the memory operands (HL), (BC), (DE) and (nn); `hlInc` and `hlDec` are (HL+) and (HL-);
`ff00n` and `ff00c` are (FF00+n) and (FF00+C). -/

namespace Sys2Proof

inductive Instr where
  -- the primary table (`30_encoding.md` R64)
  /-- `NOP` (R146) -/
  | nop
  /-- `LD BC,n16` (R95) -/
  | ld_bc_n16 (nn : Word)
  /-- `LD (BC),A` (R83) -/
  | ld_bcInd_a
  /-- `INC BC` (R116) -/
  | inc_bc
  /-- `INC B` (R114) -/
  | inc_b
  /-- `DEC B` (R115) -/
  | dec_b
  /-- `LD B,n8` (R77) -/
  | ld_b_n8 (n : Byte)
  /-- `RLCA` (R138) -/
  | rlca
  /-- `LD (nn),SP` (R96) -/
  | ld_nnInd_sp (nn : Word)
  /-- `ADD HL,BC` (R118) -/
  | add_hl_bc
  /-- `LD A,(BC)` (R81) -/
  | ld_a_bcInd
  /-- `DEC BC` (R117) -/
  | dec_bc
  /-- `INC C` (R114) -/
  | inc_c
  /-- `DEC C` (R115) -/
  | dec_c
  /-- `LD C,n8` (R77) -/
  | ld_c_n8 (n : Byte)
  /-- `RRCA` (R139) -/
  | rrca
  /-- `STOP` (R147) -/
  | stop
  /-- `LD DE,n16` (R95) -/
  | ld_de_n16 (nn : Word)
  /-- `LD (DE),A` (R84) -/
  | ld_deInd_a
  /-- `INC DE` (R116) -/
  | inc_de
  /-- `INC D` (R114) -/
  | inc_d
  /-- `DEC D` (R115) -/
  | dec_d
  /-- `LD D,n8` (R77) -/
  | ld_d_n8 (n : Byte)
  /-- `RLA` (R140) -/
  | rla
  /-- `JR e` (R129) -/
  | jr_e (e : Byte)
  /-- `ADD HL,DE` (R118) -/
  | add_hl_de
  /-- `LD A,(DE)` (R82) -/
  | ld_a_deInd
  /-- `DEC DE` (R117) -/
  | dec_de
  /-- `INC E` (R114) -/
  | inc_e
  /-- `DEC E` (R115) -/
  | dec_e
  /-- `LD E,n8` (R77) -/
  | ld_e_n8 (n : Byte)
  /-- `RRA` (R141) -/
  | rra
  /-- `JR NZ,e` (R130) -/
  | jr_nz_e (e : Byte)
  /-- `LD HL,n16` (R95) -/
  | ld_hl_n16 (nn : Word)
  /-- `LD (HL+),A` (R86) -/
  | ld_hlInc_a
  /-- `INC HL` (R116) -/
  | inc_hl
  /-- `INC H` (R114) -/
  | inc_h
  /-- `DEC H` (R115) -/
  | dec_h
  /-- `LD H,n8` (R77) -/
  | ld_h_n8 (n : Byte)
  /-- `DAA` (R142) -/
  | daa
  /-- `JR Z,e` (R130) -/
  | jr_z_e (e : Byte)
  /-- `ADD HL,HL` (R118) -/
  | add_hl_hl
  /-- `LD A,(HL+)` (R88) -/
  | ld_a_hlInc
  /-- `DEC HL` (R117) -/
  | dec_hl
  /-- `INC L` (R114) -/
  | inc_l
  /-- `DEC L` (R115) -/
  | dec_l
  /-- `LD L,n8` (R77) -/
  | ld_l_n8 (n : Byte)
  /-- `CPL` (R143) -/
  | cpl
  /-- `JR NC,e` (R130) -/
  | jr_nc_e (e : Byte)
  /-- `LD SP,n16` (R95) -/
  | ld_sp_n16 (nn : Word)
  /-- `LD (HL-),A` (R87) -/
  | ld_hlDec_a
  /-- `INC SP` (R116) -/
  | inc_sp
  /-- `INC (HL)` (R114) -/
  | inc_hlInd
  /-- `DEC (HL)` (R115) -/
  | dec_hlInd
  /-- `LD (HL),n8` (R80) -/
  | ld_hlInd_n8 (n : Byte)
  /-- `SCF` (R144) -/
  | scf
  /-- `JR C,e` (R130) -/
  | jr_c_e (e : Byte)
  /-- `ADD HL,SP` (R118) -/
  | add_hl_sp
  /-- `LD A,(HL-)` (R89) -/
  | ld_a_hlDec
  /-- `DEC SP` (R117) -/
  | dec_sp
  /-- `INC A` (R114) -/
  | inc_a
  /-- `DEC A` (R115) -/
  | dec_a
  /-- `LD A,n8` (R77) -/
  | ld_a_n8 (n : Byte)
  /-- `CCF` (R145) -/
  | ccf
  /-- `LD B,B` (R76) -/
  | ld_b_b
  /-- `LD B,C` (R76) -/
  | ld_b_c
  /-- `LD B,D` (R76) -/
  | ld_b_d
  /-- `LD B,E` (R76) -/
  | ld_b_e
  /-- `LD B,H` (R76) -/
  | ld_b_h
  /-- `LD B,L` (R76) -/
  | ld_b_l
  /-- `LD B,(HL)` (R78) -/
  | ld_b_hlInd
  /-- `LD B,A` (R76) -/
  | ld_b_a
  /-- `LD C,B` (R76) -/
  | ld_c_b
  /-- `LD C,C` (R76) -/
  | ld_c_c
  /-- `LD C,D` (R76) -/
  | ld_c_d
  /-- `LD C,E` (R76) -/
  | ld_c_e
  /-- `LD C,H` (R76) -/
  | ld_c_h
  /-- `LD C,L` (R76) -/
  | ld_c_l
  /-- `LD C,(HL)` (R78) -/
  | ld_c_hlInd
  /-- `LD C,A` (R76) -/
  | ld_c_a
  /-- `LD D,B` (R76) -/
  | ld_d_b
  /-- `LD D,C` (R76) -/
  | ld_d_c
  /-- `LD D,D` (R76) -/
  | ld_d_d
  /-- `LD D,E` (R76) -/
  | ld_d_e
  /-- `LD D,H` (R76) -/
  | ld_d_h
  /-- `LD D,L` (R76) -/
  | ld_d_l
  /-- `LD D,(HL)` (R78) -/
  | ld_d_hlInd
  /-- `LD D,A` (R76) -/
  | ld_d_a
  /-- `LD E,B` (R76) -/
  | ld_e_b
  /-- `LD E,C` (R76) -/
  | ld_e_c
  /-- `LD E,D` (R76) -/
  | ld_e_d
  /-- `LD E,E` (R76) -/
  | ld_e_e
  /-- `LD E,H` (R76) -/
  | ld_e_h
  /-- `LD E,L` (R76) -/
  | ld_e_l
  /-- `LD E,(HL)` (R78) -/
  | ld_e_hlInd
  /-- `LD E,A` (R76) -/
  | ld_e_a
  /-- `LD H,B` (R76) -/
  | ld_h_b
  /-- `LD H,C` (R76) -/
  | ld_h_c
  /-- `LD H,D` (R76) -/
  | ld_h_d
  /-- `LD H,E` (R76) -/
  | ld_h_e
  /-- `LD H,H` (R76) -/
  | ld_h_h
  /-- `LD H,L` (R76) -/
  | ld_h_l
  /-- `LD H,(HL)` (R78) -/
  | ld_h_hlInd
  /-- `LD H,A` (R76) -/
  | ld_h_a
  /-- `LD L,B` (R76) -/
  | ld_l_b
  /-- `LD L,C` (R76) -/
  | ld_l_c
  /-- `LD L,D` (R76) -/
  | ld_l_d
  /-- `LD L,E` (R76) -/
  | ld_l_e
  /-- `LD L,H` (R76) -/
  | ld_l_h
  /-- `LD L,L` (R76) -/
  | ld_l_l
  /-- `LD L,(HL)` (R78) -/
  | ld_l_hlInd
  /-- `LD L,A` (R76) -/
  | ld_l_a
  /-- `LD (HL),B` (R79) -/
  | ld_hlInd_b
  /-- `LD (HL),C` (R79) -/
  | ld_hlInd_c
  /-- `LD (HL),D` (R79) -/
  | ld_hlInd_d
  /-- `LD (HL),E` (R79) -/
  | ld_hlInd_e
  /-- `LD (HL),H` (R79) -/
  | ld_hlInd_h
  /-- `LD (HL),L` (R79) -/
  | ld_hlInd_l
  /-- `HALT` (R148) -/
  | halt
  /-- `LD (HL),A` (R79) -/
  | ld_hlInd_a
  /-- `LD A,B` (R76) -/
  | ld_a_b
  /-- `LD A,C` (R76) -/
  | ld_a_c
  /-- `LD A,D` (R76) -/
  | ld_a_d
  /-- `LD A,E` (R76) -/
  | ld_a_e
  /-- `LD A,H` (R76) -/
  | ld_a_h
  /-- `LD A,L` (R76) -/
  | ld_a_l
  /-- `LD A,(HL)` (R78) -/
  | ld_a_hlInd
  /-- `LD A,A` (R76) -/
  | ld_a_a
  /-- `ADD A,B` (R106) -/
  | add_a_b
  /-- `ADD A,C` (R106) -/
  | add_a_c
  /-- `ADD A,D` (R106) -/
  | add_a_d
  /-- `ADD A,E` (R106) -/
  | add_a_e
  /-- `ADD A,H` (R106) -/
  | add_a_h
  /-- `ADD A,L` (R106) -/
  | add_a_l
  /-- `ADD A,(HL)` (R106) -/
  | add_a_hlInd
  /-- `ADD A,A` (R106) -/
  | add_a_a
  /-- `ADC A,B` (R107) -/
  | adc_a_b
  /-- `ADC A,C` (R107) -/
  | adc_a_c
  /-- `ADC A,D` (R107) -/
  | adc_a_d
  /-- `ADC A,E` (R107) -/
  | adc_a_e
  /-- `ADC A,H` (R107) -/
  | adc_a_h
  /-- `ADC A,L` (R107) -/
  | adc_a_l
  /-- `ADC A,(HL)` (R107) -/
  | adc_a_hlInd
  /-- `ADC A,A` (R107) -/
  | adc_a_a
  /-- `SUB B` (R108) -/
  | sub_b
  /-- `SUB C` (R108) -/
  | sub_c
  /-- `SUB D` (R108) -/
  | sub_d
  /-- `SUB E` (R108) -/
  | sub_e
  /-- `SUB H` (R108) -/
  | sub_h
  /-- `SUB L` (R108) -/
  | sub_l
  /-- `SUB (HL)` (R108) -/
  | sub_hlInd
  /-- `SUB A` (R108) -/
  | sub_a
  /-- `SBC A,B` (R109) -/
  | sbc_a_b
  /-- `SBC A,C` (R109) -/
  | sbc_a_c
  /-- `SBC A,D` (R109) -/
  | sbc_a_d
  /-- `SBC A,E` (R109) -/
  | sbc_a_e
  /-- `SBC A,H` (R109) -/
  | sbc_a_h
  /-- `SBC A,L` (R109) -/
  | sbc_a_l
  /-- `SBC A,(HL)` (R109) -/
  | sbc_a_hlInd
  /-- `SBC A,A` (R109) -/
  | sbc_a_a
  /-- `AND B` (R110) -/
  | and_b
  /-- `AND C` (R110) -/
  | and_c
  /-- `AND D` (R110) -/
  | and_d
  /-- `AND E` (R110) -/
  | and_e
  /-- `AND H` (R110) -/
  | and_h
  /-- `AND L` (R110) -/
  | and_l
  /-- `AND (HL)` (R110) -/
  | and_hlInd
  /-- `AND A` (R110) -/
  | and_a
  /-- `XOR B` (R112) -/
  | xor_b
  /-- `XOR C` (R112) -/
  | xor_c
  /-- `XOR D` (R112) -/
  | xor_d
  /-- `XOR E` (R112) -/
  | xor_e
  /-- `XOR H` (R112) -/
  | xor_h
  /-- `XOR L` (R112) -/
  | xor_l
  /-- `XOR (HL)` (R112) -/
  | xor_hlInd
  /-- `XOR A` (R112) -/
  | xor_a
  /-- `OR B` (R111) -/
  | or_b
  /-- `OR C` (R111) -/
  | or_c
  /-- `OR D` (R111) -/
  | or_d
  /-- `OR E` (R111) -/
  | or_e
  /-- `OR H` (R111) -/
  | or_h
  /-- `OR L` (R111) -/
  | or_l
  /-- `OR (HL)` (R111) -/
  | or_hlInd
  /-- `OR A` (R111) -/
  | or_a
  /-- `CP B` (R113) -/
  | cp_b
  /-- `CP C` (R113) -/
  | cp_c
  /-- `CP D` (R113) -/
  | cp_d
  /-- `CP E` (R113) -/
  | cp_e
  /-- `CP H` (R113) -/
  | cp_h
  /-- `CP L` (R113) -/
  | cp_l
  /-- `CP (HL)` (R113) -/
  | cp_hlInd
  /-- `CP A` (R113) -/
  | cp_a
  /-- `RET NZ` (R134) -/
  | ret_nz
  /-- `POP BC` (R100) -/
  | pop_bc
  /-- `JP NZ,nn` (R127) -/
  | jp_nz_nn (nn : Word)
  /-- `JP nn` (R126) -/
  | jp_nn (nn : Word)
  /-- `CALL NZ,nn` (R132) -/
  | call_nz_nn (nn : Word)
  /-- `PUSH BC` (R99) -/
  | push_bc
  /-- `ADD A,n8` (R106) -/
  | add_a_n8 (n : Byte)
  /-- `RST 00h` (R137) -/
  | rst_00h
  /-- `RET Z` (R134) -/
  | ret_z
  /-- `RET` (R133) -/
  | ret
  /-- `JP Z,nn` (R127) -/
  | jp_z_nn (nn : Word)
  /-- `CALL Z,nn` (R132) -/
  | call_z_nn (nn : Word)
  /-- `CALL nn` (R131) -/
  | call_nn (nn : Word)
  /-- `ADC A,n8` (R107) -/
  | adc_a_n8 (n : Byte)
  /-- `RST 08h` (R137) -/
  | rst_08h
  /-- `RET NC` (R134) -/
  | ret_nc
  /-- `POP DE` (R100) -/
  | pop_de
  /-- `JP NC,nn` (R127) -/
  | jp_nc_nn (nn : Word)
  /-- UNIMPLEMENTED: the opcode byte itself, at its first place in the table, 0xD3 (R66, R151) -/
  | unimplemented (op : Byte)
  /-- `CALL NC,nn` (R132) -/
  | call_nc_nn (nn : Word)
  /-- `PUSH DE` (R99) -/
  | push_de
  /-- `SUB n8` (R108) -/
  | sub_n8 (n : Byte)
  /-- `RST 10h` (R137) -/
  | rst_10h
  /-- `RET C` (R134) -/
  | ret_c
  /-- `RETI` (R135) -/
  | reti
  /-- `JP C,nn` (R127) -/
  | jp_c_nn (nn : Word)
  /-- `CALL C,nn` (R132) -/
  | call_c_nn (nn : Word)
  /-- `SBC A,n8` (R109) -/
  | sbc_a_n8 (n : Byte)
  /-- `RST 18h` (R137) -/
  | rst_18h
  /-- `LD (FF00+n),A` (R90) -/
  | ld_ff00n_a (n : Byte)
  /-- `POP HL` (R100) -/
  | pop_hl
  /-- `LD (FF00+C),A` (R92) -/
  | ld_ff00c_a
  /-- `PUSH HL` (R99) -/
  | push_hl
  /-- `AND n8` (R110) -/
  | and_n8 (n : Byte)
  /-- `RST 20h` (R137) -/
  | rst_20h
  /-- `ADD SP,e` (R119) -/
  | add_sp_e (e : Byte)
  /-- `JP HL` (R128) -/
  | jp_hl
  /-- `LD (nn),A` (R94) -/
  | ld_nnInd_a (nn : Word)
  /-- `XOR n8` (R112) -/
  | xor_n8 (n : Byte)
  /-- `RST 28h` (R137) -/
  | rst_28h
  /-- `LD A,(FF00+n)` (R91) -/
  | ld_a_ff00n (n : Byte)
  /-- `POP AF` (R101) -/
  | pop_af
  /-- `LD A,(FF00+C)` (R93) -/
  | ld_a_ff00c
  /-- `DI` (R149) -/
  | di
  /-- `PUSH AF` (R99) -/
  | push_af
  /-- `OR n8` (R111) -/
  | or_n8 (n : Byte)
  /-- `RST 30h` (R137) -/
  | rst_30h
  /-- `LD HL,SP+e` (R98) -/
  | ld_hl_spe (e : Byte)
  /-- `LD SP,HL` (R97) -/
  | ld_sp_hl
  /-- `LD A,(nn)` (R85) -/
  | ld_a_nnInd (nn : Word)
  /-- `EI` (R150) -/
  | ei
  /-- `CP n8` (R113) -/
  | cp_n8 (n : Byte)
  /-- `RST 38h` (R137) -/
  | rst_38h
  -- the 0xCB table (`30_encoding.md` R67)
  /-- `RLC B` (R154) -/
  | rlc_b
  /-- `RLC C` (R154) -/
  | rlc_c
  /-- `RLC D` (R154) -/
  | rlc_d
  /-- `RLC E` (R154) -/
  | rlc_e
  /-- `RLC H` (R154) -/
  | rlc_h
  /-- `RLC L` (R154) -/
  | rlc_l
  /-- `RLC (HL)` (R154) -/
  | rlc_hlInd
  /-- `RLC A` (R154) -/
  | rlc_a
  /-- `RRC B` (R155) -/
  | rrc_b
  /-- `RRC C` (R155) -/
  | rrc_c
  /-- `RRC D` (R155) -/
  | rrc_d
  /-- `RRC E` (R155) -/
  | rrc_e
  /-- `RRC H` (R155) -/
  | rrc_h
  /-- `RRC L` (R155) -/
  | rrc_l
  /-- `RRC (HL)` (R155) -/
  | rrc_hlInd
  /-- `RRC A` (R155) -/
  | rrc_a
  /-- `RL B` (R156) -/
  | rl_b
  /-- `RL C` (R156) -/
  | rl_c
  /-- `RL D` (R156) -/
  | rl_d
  /-- `RL E` (R156) -/
  | rl_e
  /-- `RL H` (R156) -/
  | rl_h
  /-- `RL L` (R156) -/
  | rl_l
  /-- `RL (HL)` (R156) -/
  | rl_hlInd
  /-- `RL A` (R156) -/
  | rl_a
  /-- `RR B` (R157) -/
  | rr_b
  /-- `RR C` (R157) -/
  | rr_c
  /-- `RR D` (R157) -/
  | rr_d
  /-- `RR E` (R157) -/
  | rr_e
  /-- `RR H` (R157) -/
  | rr_h
  /-- `RR L` (R157) -/
  | rr_l
  /-- `RR (HL)` (R157) -/
  | rr_hlInd
  /-- `RR A` (R157) -/
  | rr_a
  /-- `SLA B` (R158) -/
  | sla_b
  /-- `SLA C` (R158) -/
  | sla_c
  /-- `SLA D` (R158) -/
  | sla_d
  /-- `SLA E` (R158) -/
  | sla_e
  /-- `SLA H` (R158) -/
  | sla_h
  /-- `SLA L` (R158) -/
  | sla_l
  /-- `SLA (HL)` (R158) -/
  | sla_hlInd
  /-- `SLA A` (R158) -/
  | sla_a
  /-- `SRA B` (R159) -/
  | sra_b
  /-- `SRA C` (R159) -/
  | sra_c
  /-- `SRA D` (R159) -/
  | sra_d
  /-- `SRA E` (R159) -/
  | sra_e
  /-- `SRA H` (R159) -/
  | sra_h
  /-- `SRA L` (R159) -/
  | sra_l
  /-- `SRA (HL)` (R159) -/
  | sra_hlInd
  /-- `SRA A` (R159) -/
  | sra_a
  /-- `SWAP B` (R161) -/
  | swap_b
  /-- `SWAP C` (R161) -/
  | swap_c
  /-- `SWAP D` (R161) -/
  | swap_d
  /-- `SWAP E` (R161) -/
  | swap_e
  /-- `SWAP H` (R161) -/
  | swap_h
  /-- `SWAP L` (R161) -/
  | swap_l
  /-- `SWAP (HL)` (R161) -/
  | swap_hlInd
  /-- `SWAP A` (R161) -/
  | swap_a
  /-- `SRL B` (R160) -/
  | srl_b
  /-- `SRL C` (R160) -/
  | srl_c
  /-- `SRL D` (R160) -/
  | srl_d
  /-- `SRL E` (R160) -/
  | srl_e
  /-- `SRL H` (R160) -/
  | srl_h
  /-- `SRL L` (R160) -/
  | srl_l
  /-- `SRL (HL)` (R160) -/
  | srl_hlInd
  /-- `SRL A` (R160) -/
  | srl_a
  /-- `BIT 0,B` (R162) -/
  | bit_0_b
  /-- `BIT 0,C` (R162) -/
  | bit_0_c
  /-- `BIT 0,D` (R162) -/
  | bit_0_d
  /-- `BIT 0,E` (R162) -/
  | bit_0_e
  /-- `BIT 0,H` (R162) -/
  | bit_0_h
  /-- `BIT 0,L` (R162) -/
  | bit_0_l
  /-- `BIT 0,(HL)` (R162) -/
  | bit_0_hlInd
  /-- `BIT 0,A` (R162) -/
  | bit_0_a
  /-- `BIT 1,B` (R162) -/
  | bit_1_b
  /-- `BIT 1,C` (R162) -/
  | bit_1_c
  /-- `BIT 1,D` (R162) -/
  | bit_1_d
  /-- `BIT 1,E` (R162) -/
  | bit_1_e
  /-- `BIT 1,H` (R162) -/
  | bit_1_h
  /-- `BIT 1,L` (R162) -/
  | bit_1_l
  /-- `BIT 1,(HL)` (R162) -/
  | bit_1_hlInd
  /-- `BIT 1,A` (R162) -/
  | bit_1_a
  /-- `BIT 2,B` (R162) -/
  | bit_2_b
  /-- `BIT 2,C` (R162) -/
  | bit_2_c
  /-- `BIT 2,D` (R162) -/
  | bit_2_d
  /-- `BIT 2,E` (R162) -/
  | bit_2_e
  /-- `BIT 2,H` (R162) -/
  | bit_2_h
  /-- `BIT 2,L` (R162) -/
  | bit_2_l
  /-- `BIT 2,(HL)` (R162) -/
  | bit_2_hlInd
  /-- `BIT 2,A` (R162) -/
  | bit_2_a
  /-- `BIT 3,B` (R162) -/
  | bit_3_b
  /-- `BIT 3,C` (R162) -/
  | bit_3_c
  /-- `BIT 3,D` (R162) -/
  | bit_3_d
  /-- `BIT 3,E` (R162) -/
  | bit_3_e
  /-- `BIT 3,H` (R162) -/
  | bit_3_h
  /-- `BIT 3,L` (R162) -/
  | bit_3_l
  /-- `BIT 3,(HL)` (R162) -/
  | bit_3_hlInd
  /-- `BIT 3,A` (R162) -/
  | bit_3_a
  /-- `BIT 4,B` (R162) -/
  | bit_4_b
  /-- `BIT 4,C` (R162) -/
  | bit_4_c
  /-- `BIT 4,D` (R162) -/
  | bit_4_d
  /-- `BIT 4,E` (R162) -/
  | bit_4_e
  /-- `BIT 4,H` (R162) -/
  | bit_4_h
  /-- `BIT 4,L` (R162) -/
  | bit_4_l
  /-- `BIT 4,(HL)` (R162) -/
  | bit_4_hlInd
  /-- `BIT 4,A` (R162) -/
  | bit_4_a
  /-- `BIT 5,B` (R162) -/
  | bit_5_b
  /-- `BIT 5,C` (R162) -/
  | bit_5_c
  /-- `BIT 5,D` (R162) -/
  | bit_5_d
  /-- `BIT 5,E` (R162) -/
  | bit_5_e
  /-- `BIT 5,H` (R162) -/
  | bit_5_h
  /-- `BIT 5,L` (R162) -/
  | bit_5_l
  /-- `BIT 5,(HL)` (R162) -/
  | bit_5_hlInd
  /-- `BIT 5,A` (R162) -/
  | bit_5_a
  /-- `BIT 6,B` (R162) -/
  | bit_6_b
  /-- `BIT 6,C` (R162) -/
  | bit_6_c
  /-- `BIT 6,D` (R162) -/
  | bit_6_d
  /-- `BIT 6,E` (R162) -/
  | bit_6_e
  /-- `BIT 6,H` (R162) -/
  | bit_6_h
  /-- `BIT 6,L` (R162) -/
  | bit_6_l
  /-- `BIT 6,(HL)` (R162) -/
  | bit_6_hlInd
  /-- `BIT 6,A` (R162) -/
  | bit_6_a
  /-- `BIT 7,B` (R162) -/
  | bit_7_b
  /-- `BIT 7,C` (R162) -/
  | bit_7_c
  /-- `BIT 7,D` (R162) -/
  | bit_7_d
  /-- `BIT 7,E` (R162) -/
  | bit_7_e
  /-- `BIT 7,H` (R162) -/
  | bit_7_h
  /-- `BIT 7,L` (R162) -/
  | bit_7_l
  /-- `BIT 7,(HL)` (R162) -/
  | bit_7_hlInd
  /-- `BIT 7,A` (R162) -/
  | bit_7_a
  /-- `RES 0,B` (R164) -/
  | res_0_b
  /-- `RES 0,C` (R164) -/
  | res_0_c
  /-- `RES 0,D` (R164) -/
  | res_0_d
  /-- `RES 0,E` (R164) -/
  | res_0_e
  /-- `RES 0,H` (R164) -/
  | res_0_h
  /-- `RES 0,L` (R164) -/
  | res_0_l
  /-- `RES 0,(HL)` (R164) -/
  | res_0_hlInd
  /-- `RES 0,A` (R164) -/
  | res_0_a
  /-- `RES 1,B` (R164) -/
  | res_1_b
  /-- `RES 1,C` (R164) -/
  | res_1_c
  /-- `RES 1,D` (R164) -/
  | res_1_d
  /-- `RES 1,E` (R164) -/
  | res_1_e
  /-- `RES 1,H` (R164) -/
  | res_1_h
  /-- `RES 1,L` (R164) -/
  | res_1_l
  /-- `RES 1,(HL)` (R164) -/
  | res_1_hlInd
  /-- `RES 1,A` (R164) -/
  | res_1_a
  /-- `RES 2,B` (R164) -/
  | res_2_b
  /-- `RES 2,C` (R164) -/
  | res_2_c
  /-- `RES 2,D` (R164) -/
  | res_2_d
  /-- `RES 2,E` (R164) -/
  | res_2_e
  /-- `RES 2,H` (R164) -/
  | res_2_h
  /-- `RES 2,L` (R164) -/
  | res_2_l
  /-- `RES 2,(HL)` (R164) -/
  | res_2_hlInd
  /-- `RES 2,A` (R164) -/
  | res_2_a
  /-- `RES 3,B` (R164) -/
  | res_3_b
  /-- `RES 3,C` (R164) -/
  | res_3_c
  /-- `RES 3,D` (R164) -/
  | res_3_d
  /-- `RES 3,E` (R164) -/
  | res_3_e
  /-- `RES 3,H` (R164) -/
  | res_3_h
  /-- `RES 3,L` (R164) -/
  | res_3_l
  /-- `RES 3,(HL)` (R164) -/
  | res_3_hlInd
  /-- `RES 3,A` (R164) -/
  | res_3_a
  /-- `RES 4,B` (R164) -/
  | res_4_b
  /-- `RES 4,C` (R164) -/
  | res_4_c
  /-- `RES 4,D` (R164) -/
  | res_4_d
  /-- `RES 4,E` (R164) -/
  | res_4_e
  /-- `RES 4,H` (R164) -/
  | res_4_h
  /-- `RES 4,L` (R164) -/
  | res_4_l
  /-- `RES 4,(HL)` (R164) -/
  | res_4_hlInd
  /-- `RES 4,A` (R164) -/
  | res_4_a
  /-- `RES 5,B` (R164) -/
  | res_5_b
  /-- `RES 5,C` (R164) -/
  | res_5_c
  /-- `RES 5,D` (R164) -/
  | res_5_d
  /-- `RES 5,E` (R164) -/
  | res_5_e
  /-- `RES 5,H` (R164) -/
  | res_5_h
  /-- `RES 5,L` (R164) -/
  | res_5_l
  /-- `RES 5,(HL)` (R164) -/
  | res_5_hlInd
  /-- `RES 5,A` (R164) -/
  | res_5_a
  /-- `RES 6,B` (R164) -/
  | res_6_b
  /-- `RES 6,C` (R164) -/
  | res_6_c
  /-- `RES 6,D` (R164) -/
  | res_6_d
  /-- `RES 6,E` (R164) -/
  | res_6_e
  /-- `RES 6,H` (R164) -/
  | res_6_h
  /-- `RES 6,L` (R164) -/
  | res_6_l
  /-- `RES 6,(HL)` (R164) -/
  | res_6_hlInd
  /-- `RES 6,A` (R164) -/
  | res_6_a
  /-- `RES 7,B` (R164) -/
  | res_7_b
  /-- `RES 7,C` (R164) -/
  | res_7_c
  /-- `RES 7,D` (R164) -/
  | res_7_d
  /-- `RES 7,E` (R164) -/
  | res_7_e
  /-- `RES 7,H` (R164) -/
  | res_7_h
  /-- `RES 7,L` (R164) -/
  | res_7_l
  /-- `RES 7,(HL)` (R164) -/
  | res_7_hlInd
  /-- `RES 7,A` (R164) -/
  | res_7_a
  /-- `SET 0,B` (R163) -/
  | set_0_b
  /-- `SET 0,C` (R163) -/
  | set_0_c
  /-- `SET 0,D` (R163) -/
  | set_0_d
  /-- `SET 0,E` (R163) -/
  | set_0_e
  /-- `SET 0,H` (R163) -/
  | set_0_h
  /-- `SET 0,L` (R163) -/
  | set_0_l
  /-- `SET 0,(HL)` (R163) -/
  | set_0_hlInd
  /-- `SET 0,A` (R163) -/
  | set_0_a
  /-- `SET 1,B` (R163) -/
  | set_1_b
  /-- `SET 1,C` (R163) -/
  | set_1_c
  /-- `SET 1,D` (R163) -/
  | set_1_d
  /-- `SET 1,E` (R163) -/
  | set_1_e
  /-- `SET 1,H` (R163) -/
  | set_1_h
  /-- `SET 1,L` (R163) -/
  | set_1_l
  /-- `SET 1,(HL)` (R163) -/
  | set_1_hlInd
  /-- `SET 1,A` (R163) -/
  | set_1_a
  /-- `SET 2,B` (R163) -/
  | set_2_b
  /-- `SET 2,C` (R163) -/
  | set_2_c
  /-- `SET 2,D` (R163) -/
  | set_2_d
  /-- `SET 2,E` (R163) -/
  | set_2_e
  /-- `SET 2,H` (R163) -/
  | set_2_h
  /-- `SET 2,L` (R163) -/
  | set_2_l
  /-- `SET 2,(HL)` (R163) -/
  | set_2_hlInd
  /-- `SET 2,A` (R163) -/
  | set_2_a
  /-- `SET 3,B` (R163) -/
  | set_3_b
  /-- `SET 3,C` (R163) -/
  | set_3_c
  /-- `SET 3,D` (R163) -/
  | set_3_d
  /-- `SET 3,E` (R163) -/
  | set_3_e
  /-- `SET 3,H` (R163) -/
  | set_3_h
  /-- `SET 3,L` (R163) -/
  | set_3_l
  /-- `SET 3,(HL)` (R163) -/
  | set_3_hlInd
  /-- `SET 3,A` (R163) -/
  | set_3_a
  /-- `SET 4,B` (R163) -/
  | set_4_b
  /-- `SET 4,C` (R163) -/
  | set_4_c
  /-- `SET 4,D` (R163) -/
  | set_4_d
  /-- `SET 4,E` (R163) -/
  | set_4_e
  /-- `SET 4,H` (R163) -/
  | set_4_h
  /-- `SET 4,L` (R163) -/
  | set_4_l
  /-- `SET 4,(HL)` (R163) -/
  | set_4_hlInd
  /-- `SET 4,A` (R163) -/
  | set_4_a
  /-- `SET 5,B` (R163) -/
  | set_5_b
  /-- `SET 5,C` (R163) -/
  | set_5_c
  /-- `SET 5,D` (R163) -/
  | set_5_d
  /-- `SET 5,E` (R163) -/
  | set_5_e
  /-- `SET 5,H` (R163) -/
  | set_5_h
  /-- `SET 5,L` (R163) -/
  | set_5_l
  /-- `SET 5,(HL)` (R163) -/
  | set_5_hlInd
  /-- `SET 5,A` (R163) -/
  | set_5_a
  /-- `SET 6,B` (R163) -/
  | set_6_b
  /-- `SET 6,C` (R163) -/
  | set_6_c
  /-- `SET 6,D` (R163) -/
  | set_6_d
  /-- `SET 6,E` (R163) -/
  | set_6_e
  /-- `SET 6,H` (R163) -/
  | set_6_h
  /-- `SET 6,L` (R163) -/
  | set_6_l
  /-- `SET 6,(HL)` (R163) -/
  | set_6_hlInd
  /-- `SET 6,A` (R163) -/
  | set_6_a
  /-- `SET 7,B` (R163) -/
  | set_7_b
  /-- `SET 7,C` (R163) -/
  | set_7_c
  /-- `SET 7,D` (R163) -/
  | set_7_d
  /-- `SET 7,E` (R163) -/
  | set_7_e
  /-- `SET 7,H` (R163) -/
  | set_7_h
  /-- `SET 7,L` (R163) -/
  | set_7_l
  /-- `SET 7,(HL)` (R163) -/
  | set_7_hlInd
  /-- `SET 7,A` (R163) -/
  | set_7_a
  deriving DecidableEq, Repr

end Sys2Proof
end

