-- ==== Sys2Proof/WellFormed.lean ====
section
/-! DEFINITION. Which instructions the encoding admits. Every immediate is a bit vector of its field's exact width, so every
value of it is admitted (`30_encoding.md` R63); the one check is that an UNIMPLEMENTED instruction carries one of the eleven
bytes that decode to no instruction (`30_encoding.md` R66). -/

namespace Sys2Proof

/-- The eleven primary byte values that decode to no instruction (`30_encoding.md` R66). -/
def unimplementedOpcodes : List Byte :=
  [0xD3#8, 0xDB#8, 0xDD#8, 0xE3#8, 0xE4#8, 0xEB#8, 0xEC#8, 0xED#8, 0xF4#8, 0xFC#8, 0xFD#8]

/-- The check on an instruction's operand. -/
def Instr.wellFormed : Instr → Bool
  | .unimplemented op => unimplementedOpcodes.contains op
  | _ => true

/-- The instruction is one the encoding admits. -/
abbrev Instr.WellFormed (i : Instr) : Prop := i.wellFormed = true

end Sys2Proof
end

