-- ==== Sys2Proof/Decode.lean ====
section
/-! DEFINITION. The byte-order helpers, the decoder, written from the two opcode maps (`30_encoding.md` R64, R67) and total on
any bytes, the reading of an opcode-table word, and the encoder, written from the `match` column of the opcode table (R73). -/

namespace Sys2Proof

/-- `v[15:8]` (`00_scope.md` R7). -/
def hiByte (v : Word) : Byte := v.extractLsb' 8 8

/-- `v[7:0]` (`00_scope.md` R7). -/
def loByte (v : Word) : Byte := v.extractLsb' 0 8

/-- `hi:lo`, that is `hi * 256 + lo` (`00_scope.md` R8). -/
def pairWord (hi lo : Byte) : Word := hi ++ lo

/-- What the primary table holds at one opcode byte. The formats are those of `30_encoding.md` R61. -/
inductive Entry where
  /-- OP: the opcode byte is the whole instruction -/
  | plain (i : Instr)
  /-- OP_N8 and OP_E8: one operand byte follows -/
  | imm8 (make : Byte → Instr)
  /-- OP_N16: two operand bytes follow, low byte first -/
  | imm16 (make : Word → Instr)
  /-- 0xCB: the second byte selects an entry of the CB table (R70) -/
  | cbPrefix
  /-- no instruction (R66) -/
  | noInstr

/-- Row 0x of the primary table (`30_encoding.md` R64). -/
def primaryRow0 : List Entry :=
  [ .plain .nop, .imm16 .ld_bc_n16, .plain .ld_bcInd_a, .plain .inc_bc,
    .plain .inc_b, .plain .dec_b, .imm8 .ld_b_n8, .plain .rlca,
    .imm16 .ld_nnInd_sp, .plain .add_hl_bc, .plain .ld_a_bcInd, .plain .dec_bc,
    .plain .inc_c, .plain .dec_c, .imm8 .ld_c_n8, .plain .rrca ]

/-- Row 1x of the primary table (`30_encoding.md` R64). -/
def primaryRow1 : List Entry :=
  [ .plain .stop, .imm16 .ld_de_n16, .plain .ld_deInd_a, .plain .inc_de,
    .plain .inc_d, .plain .dec_d, .imm8 .ld_d_n8, .plain .rla,
    .imm8 .jr_e, .plain .add_hl_de, .plain .ld_a_deInd, .plain .dec_de,
    .plain .inc_e, .plain .dec_e, .imm8 .ld_e_n8, .plain .rra ]

/-- Row 2x of the primary table (`30_encoding.md` R64). -/
def primaryRow2 : List Entry :=
  [ .imm8 .jr_nz_e, .imm16 .ld_hl_n16, .plain .ld_hlInc_a, .plain .inc_hl,
    .plain .inc_h, .plain .dec_h, .imm8 .ld_h_n8, .plain .daa,
    .imm8 .jr_z_e, .plain .add_hl_hl, .plain .ld_a_hlInc, .plain .dec_hl,
    .plain .inc_l, .plain .dec_l, .imm8 .ld_l_n8, .plain .cpl ]

/-- Row 3x of the primary table (`30_encoding.md` R64). -/
def primaryRow3 : List Entry :=
  [ .imm8 .jr_nc_e, .imm16 .ld_sp_n16, .plain .ld_hlDec_a, .plain .inc_sp,
    .plain .inc_hlInd, .plain .dec_hlInd, .imm8 .ld_hlInd_n8, .plain .scf,
    .imm8 .jr_c_e, .plain .add_hl_sp, .plain .ld_a_hlDec, .plain .dec_sp,
    .plain .inc_a, .plain .dec_a, .imm8 .ld_a_n8, .plain .ccf ]

/-- Row 4x of the primary table (`30_encoding.md` R64). -/
def primaryRow4 : List Entry :=
  [ .plain .ld_b_b, .plain .ld_b_c, .plain .ld_b_d, .plain .ld_b_e,
    .plain .ld_b_h, .plain .ld_b_l, .plain .ld_b_hlInd, .plain .ld_b_a,
    .plain .ld_c_b, .plain .ld_c_c, .plain .ld_c_d, .plain .ld_c_e,
    .plain .ld_c_h, .plain .ld_c_l, .plain .ld_c_hlInd, .plain .ld_c_a ]

/-- Row 5x of the primary table (`30_encoding.md` R64). -/
def primaryRow5 : List Entry :=
  [ .plain .ld_d_b, .plain .ld_d_c, .plain .ld_d_d, .plain .ld_d_e,
    .plain .ld_d_h, .plain .ld_d_l, .plain .ld_d_hlInd, .plain .ld_d_a,
    .plain .ld_e_b, .plain .ld_e_c, .plain .ld_e_d, .plain .ld_e_e,
    .plain .ld_e_h, .plain .ld_e_l, .plain .ld_e_hlInd, .plain .ld_e_a ]

/-- Row 6x of the primary table (`30_encoding.md` R64). -/
def primaryRow6 : List Entry :=
  [ .plain .ld_h_b, .plain .ld_h_c, .plain .ld_h_d, .plain .ld_h_e,
    .plain .ld_h_h, .plain .ld_h_l, .plain .ld_h_hlInd, .plain .ld_h_a,
    .plain .ld_l_b, .plain .ld_l_c, .plain .ld_l_d, .plain .ld_l_e,
    .plain .ld_l_h, .plain .ld_l_l, .plain .ld_l_hlInd, .plain .ld_l_a ]

/-- Row 7x of the primary table (`30_encoding.md` R64). -/
def primaryRow7 : List Entry :=
  [ .plain .ld_hlInd_b, .plain .ld_hlInd_c, .plain .ld_hlInd_d, .plain .ld_hlInd_e,
    .plain .ld_hlInd_h, .plain .ld_hlInd_l, .plain .halt, .plain .ld_hlInd_a,
    .plain .ld_a_b, .plain .ld_a_c, .plain .ld_a_d, .plain .ld_a_e,
    .plain .ld_a_h, .plain .ld_a_l, .plain .ld_a_hlInd, .plain .ld_a_a ]

/-- Row 8x of the primary table (`30_encoding.md` R64). -/
def primaryRow8 : List Entry :=
  [ .plain .add_a_b, .plain .add_a_c, .plain .add_a_d, .plain .add_a_e,
    .plain .add_a_h, .plain .add_a_l, .plain .add_a_hlInd, .plain .add_a_a,
    .plain .adc_a_b, .plain .adc_a_c, .plain .adc_a_d, .plain .adc_a_e,
    .plain .adc_a_h, .plain .adc_a_l, .plain .adc_a_hlInd, .plain .adc_a_a ]

/-- Row 9x of the primary table (`30_encoding.md` R64). -/
def primaryRow9 : List Entry :=
  [ .plain .sub_b, .plain .sub_c, .plain .sub_d, .plain .sub_e,
    .plain .sub_h, .plain .sub_l, .plain .sub_hlInd, .plain .sub_a,
    .plain .sbc_a_b, .plain .sbc_a_c, .plain .sbc_a_d, .plain .sbc_a_e,
    .plain .sbc_a_h, .plain .sbc_a_l, .plain .sbc_a_hlInd, .plain .sbc_a_a ]

/-- Row Ax of the primary table (`30_encoding.md` R64). -/
def primaryRowA : List Entry :=
  [ .plain .and_b, .plain .and_c, .plain .and_d, .plain .and_e,
    .plain .and_h, .plain .and_l, .plain .and_hlInd, .plain .and_a,
    .plain .xor_b, .plain .xor_c, .plain .xor_d, .plain .xor_e,
    .plain .xor_h, .plain .xor_l, .plain .xor_hlInd, .plain .xor_a ]

/-- Row Bx of the primary table (`30_encoding.md` R64). -/
def primaryRowB : List Entry :=
  [ .plain .or_b, .plain .or_c, .plain .or_d, .plain .or_e,
    .plain .or_h, .plain .or_l, .plain .or_hlInd, .plain .or_a,
    .plain .cp_b, .plain .cp_c, .plain .cp_d, .plain .cp_e,
    .plain .cp_h, .plain .cp_l, .plain .cp_hlInd, .plain .cp_a ]

/-- Row Cx of the primary table (`30_encoding.md` R64). -/
def primaryRowC : List Entry :=
  [ .plain .ret_nz, .plain .pop_bc, .imm16 .jp_nz_nn, .imm16 .jp_nn,
    .imm16 .call_nz_nn, .plain .push_bc, .imm8 .add_a_n8, .plain .rst_00h,
    .plain .ret_z, .plain .ret, .imm16 .jp_z_nn, .cbPrefix,
    .imm16 .call_z_nn, .imm16 .call_nn, .imm8 .adc_a_n8, .plain .rst_08h ]

/-- Row Dx of the primary table (`30_encoding.md` R64). -/
def primaryRowD : List Entry :=
  [ .plain .ret_nc, .plain .pop_de, .imm16 .jp_nc_nn, .noInstr,
    .imm16 .call_nc_nn, .plain .push_de, .imm8 .sub_n8, .plain .rst_10h,
    .plain .ret_c, .plain .reti, .imm16 .jp_c_nn, .noInstr,
    .imm16 .call_c_nn, .noInstr, .imm8 .sbc_a_n8, .plain .rst_18h ]

/-- Row Ex of the primary table (`30_encoding.md` R64). -/
def primaryRowE : List Entry :=
  [ .imm8 .ld_ff00n_a, .plain .pop_hl, .plain .ld_ff00c_a, .noInstr,
    .noInstr, .plain .push_hl, .imm8 .and_n8, .plain .rst_20h,
    .imm8 .add_sp_e, .plain .jp_hl, .imm16 .ld_nnInd_a, .noInstr,
    .noInstr, .noInstr, .imm8 .xor_n8, .plain .rst_28h ]

/-- Row Fx of the primary table (`30_encoding.md` R64). -/
def primaryRowF : List Entry :=
  [ .imm8 .ld_a_ff00n, .plain .pop_af, .plain .ld_a_ff00c, .plain .di,
    .noInstr, .plain .push_af, .imm8 .or_n8, .plain .rst_30h,
    .imm8 .ld_hl_spe, .plain .ld_sp_hl, .imm16 .ld_a_nnInd, .plain .ei,
    .noInstr, .noInstr, .imm8 .cp_n8, .plain .rst_38h ]

/-- Row 0x of the 0xCB table (`30_encoding.md` R67). -/
def cbRow0 : List Instr :=
  [ .rlc_b, .rlc_c, .rlc_d, .rlc_e, .rlc_h, .rlc_l, .rlc_hlInd, .rlc_a,
    .rrc_b, .rrc_c, .rrc_d, .rrc_e, .rrc_h, .rrc_l, .rrc_hlInd, .rrc_a ]

/-- Row 1x of the 0xCB table (`30_encoding.md` R67). -/
def cbRow1 : List Instr :=
  [ .rl_b, .rl_c, .rl_d, .rl_e, .rl_h, .rl_l, .rl_hlInd, .rl_a,
    .rr_b, .rr_c, .rr_d, .rr_e, .rr_h, .rr_l, .rr_hlInd, .rr_a ]

/-- Row 2x of the 0xCB table (`30_encoding.md` R67). -/
def cbRow2 : List Instr :=
  [ .sla_b, .sla_c, .sla_d, .sla_e, .sla_h, .sla_l, .sla_hlInd, .sla_a,
    .sra_b, .sra_c, .sra_d, .sra_e, .sra_h, .sra_l, .sra_hlInd, .sra_a ]

/-- Row 3x of the 0xCB table (`30_encoding.md` R67). -/
def cbRow3 : List Instr :=
  [ .swap_b, .swap_c, .swap_d, .swap_e, .swap_h, .swap_l, .swap_hlInd, .swap_a,
    .srl_b, .srl_c, .srl_d, .srl_e, .srl_h, .srl_l, .srl_hlInd, .srl_a ]

/-- Row 4x of the 0xCB table (`30_encoding.md` R67). -/
def cbRow4 : List Instr :=
  [ .bit_0_b, .bit_0_c, .bit_0_d, .bit_0_e, .bit_0_h, .bit_0_l, .bit_0_hlInd, .bit_0_a,
    .bit_1_b, .bit_1_c, .bit_1_d, .bit_1_e, .bit_1_h, .bit_1_l, .bit_1_hlInd, .bit_1_a ]

/-- Row 5x of the 0xCB table (`30_encoding.md` R67). -/
def cbRow5 : List Instr :=
  [ .bit_2_b, .bit_2_c, .bit_2_d, .bit_2_e, .bit_2_h, .bit_2_l, .bit_2_hlInd, .bit_2_a,
    .bit_3_b, .bit_3_c, .bit_3_d, .bit_3_e, .bit_3_h, .bit_3_l, .bit_3_hlInd, .bit_3_a ]

/-- Row 6x of the 0xCB table (`30_encoding.md` R67). -/
def cbRow6 : List Instr :=
  [ .bit_4_b, .bit_4_c, .bit_4_d, .bit_4_e, .bit_4_h, .bit_4_l, .bit_4_hlInd, .bit_4_a,
    .bit_5_b, .bit_5_c, .bit_5_d, .bit_5_e, .bit_5_h, .bit_5_l, .bit_5_hlInd, .bit_5_a ]

/-- Row 7x of the 0xCB table (`30_encoding.md` R67). -/
def cbRow7 : List Instr :=
  [ .bit_6_b, .bit_6_c, .bit_6_d, .bit_6_e, .bit_6_h, .bit_6_l, .bit_6_hlInd, .bit_6_a,
    .bit_7_b, .bit_7_c, .bit_7_d, .bit_7_e, .bit_7_h, .bit_7_l, .bit_7_hlInd, .bit_7_a ]

/-- Row 8x of the 0xCB table (`30_encoding.md` R67). -/
def cbRow8 : List Instr :=
  [ .res_0_b, .res_0_c, .res_0_d, .res_0_e, .res_0_h, .res_0_l, .res_0_hlInd, .res_0_a,
    .res_1_b, .res_1_c, .res_1_d, .res_1_e, .res_1_h, .res_1_l, .res_1_hlInd, .res_1_a ]

/-- Row 9x of the 0xCB table (`30_encoding.md` R67). -/
def cbRow9 : List Instr :=
  [ .res_2_b, .res_2_c, .res_2_d, .res_2_e, .res_2_h, .res_2_l, .res_2_hlInd, .res_2_a,
    .res_3_b, .res_3_c, .res_3_d, .res_3_e, .res_3_h, .res_3_l, .res_3_hlInd, .res_3_a ]

/-- Row Ax of the 0xCB table (`30_encoding.md` R67). -/
def cbRowA : List Instr :=
  [ .res_4_b, .res_4_c, .res_4_d, .res_4_e, .res_4_h, .res_4_l, .res_4_hlInd, .res_4_a,
    .res_5_b, .res_5_c, .res_5_d, .res_5_e, .res_5_h, .res_5_l, .res_5_hlInd, .res_5_a ]

/-- Row Bx of the 0xCB table (`30_encoding.md` R67). -/
def cbRowB : List Instr :=
  [ .res_6_b, .res_6_c, .res_6_d, .res_6_e, .res_6_h, .res_6_l, .res_6_hlInd, .res_6_a,
    .res_7_b, .res_7_c, .res_7_d, .res_7_e, .res_7_h, .res_7_l, .res_7_hlInd, .res_7_a ]

/-- Row Cx of the 0xCB table (`30_encoding.md` R67). -/
def cbRowC : List Instr :=
  [ .set_0_b, .set_0_c, .set_0_d, .set_0_e, .set_0_h, .set_0_l, .set_0_hlInd, .set_0_a,
    .set_1_b, .set_1_c, .set_1_d, .set_1_e, .set_1_h, .set_1_l, .set_1_hlInd, .set_1_a ]

/-- Row Dx of the 0xCB table (`30_encoding.md` R67). -/
def cbRowD : List Instr :=
  [ .set_2_b, .set_2_c, .set_2_d, .set_2_e, .set_2_h, .set_2_l, .set_2_hlInd, .set_2_a,
    .set_3_b, .set_3_c, .set_3_d, .set_3_e, .set_3_h, .set_3_l, .set_3_hlInd, .set_3_a ]

/-- Row Ex of the 0xCB table (`30_encoding.md` R67). -/
def cbRowE : List Instr :=
  [ .set_4_b, .set_4_c, .set_4_d, .set_4_e, .set_4_h, .set_4_l, .set_4_hlInd, .set_4_a,
    .set_5_b, .set_5_c, .set_5_d, .set_5_e, .set_5_h, .set_5_l, .set_5_hlInd, .set_5_a ]

/-- Row Fx of the 0xCB table (`30_encoding.md` R67). -/
def cbRowF : List Instr :=
  [ .set_6_b, .set_6_c, .set_6_d, .set_6_e, .set_6_h, .set_6_l, .set_6_hlInd, .set_6_a,
    .set_7_b, .set_7_c, .set_7_d, .set_7_e, .set_7_h, .set_7_l, .set_7_hlInd, .set_7_a ]

/-- The primary table, rows by high nibble (`30_encoding.md` R64). -/
def primaryTable : List (List Entry) :=
  [ primaryRow0, primaryRow1, primaryRow2, primaryRow3, primaryRow4, primaryRow5, primaryRow6, primaryRow7,
    primaryRow8, primaryRow9, primaryRowA, primaryRowB, primaryRowC, primaryRowD, primaryRowE, primaryRowF ]

/-- The 0xCB table, rows by high nibble (`30_encoding.md` R67). -/
def cbTable : List (List Instr) :=
  [ cbRow0, cbRow1, cbRow2, cbRow3, cbRow4, cbRow5, cbRow6, cbRow7,
    cbRow8, cbRow9, cbRowA, cbRowB, cbRowC, cbRowD, cbRowE, cbRowF ]

/-- The primary-table entry of an opcode byte. Both indices are in range, so the defaults are never taken. -/
def primaryEntry (op : Byte) : Entry :=
  (primaryTable.getD (op.toNat / 16) []).getD (op.toNat % 16) .noInstr

/-- The 0xCB-table entry of a second byte. Both indices are in range, so the defaults are never taken. -/
def cbInstr (op2 : Byte) : Instr :=
  (cbTable.getD (op2.toNat / 16) []).getD (op2.toNat % 16) .rlc_b

/-- The instruction that starts with the byte `b0`, followed by `b1` and `b2`, and its length in bytes (`30_encoding.md` R56,
R61, R70). An instruction shorter than three bytes does not depend on the bytes after it. -/
def decodeWindow (b0 b1 b2 : Byte) : Instr × Nat :=
  match primaryEntry b0 with
  | .plain i => (i, 1)
  | .imm8 make => (make b1, 2)
  | .imm16 make => (make (pairWord b2 b1), 3)
  | .cbPrefix => (cbInstr b1, 2)
  | .noInstr => (.unimplemented b0, 1)

/-- Why a list of bytes is no instruction. No byte value is one of the reasons: every opcode byte and every second byte after
0xCB decodes (`30_encoding.md` R66 to R68). -/
inductive DecodeError where
  /-- there is no byte -/
  | noBytes
  /-- the list ends before the instruction does -/
  | truncated
  deriving DecidableEq, Repr

/-- The first instruction of a list of bytes, with the rest of the list. -/
def decode (bytes : List Byte) : Except DecodeError (Instr × List Byte) :=
  match bytes with
  | [] => .error .noBytes
  | b0 :: rest =>
    let (i, n) := decodeWindow b0 (rest.getD 0 0#8) (rest.getD 1 0#8)
    if n ≤ bytes.length then .ok (i, bytes.drop n) else .error .truncated

/-- The three bytes, as they lie in memory, of an instruction whose opcode-table bits are `w`. The table writes a 0xCB row as a
16-bit number with the first byte, 0xCB, as the HIGH byte (`30_encoding.md` R73); every other row's number has its first byte
lowest. Bits above `nbits` are zero (log 18). -/
def tableBytes (nbits w : Nat) : List Byte :=
  let v := w % 2 ^ nbits
  if nbits = 16 ∧ v / 256 = 0xCB then [0xCB#8, BitVec.ofNat 8 v, 0#8]
  else [BitVec.ofNat 8 v, BitVec.ofNat 8 (v / 256), BitVec.ofNat 8 (v / 65536)]

/-- The instruction the decoder reads from an opcode-table word. -/
def decodeTableWord (nbits w : Nat) : Option Instr :=
  match decode (tableBytes nbits w) with
  | .ok (i, _) => some i
  | .error _ => none

/-- The bytes of an instruction, in memory order: the table's `match` (`30_encoding.md` R73), then the operand bytes, low byte
first (`30_encoding.md` R61, `20_memory.md` R47). -/
def encode : Instr → List Byte
  | .nop => [0x00#8]
  | .ld_bc_n16 nn => [0x01#8, loByte nn, hiByte nn]
  | .ld_bcInd_a => [0x02#8]
  | .inc_bc => [0x03#8]
  | .inc_b => [0x04#8]
  | .dec_b => [0x05#8]
  | .ld_b_n8 n => [0x06#8, n]
  | .rlca => [0x07#8]
  | .ld_nnInd_sp nn => [0x08#8, loByte nn, hiByte nn]
  | .add_hl_bc => [0x09#8]
  | .ld_a_bcInd => [0x0A#8]
  | .dec_bc => [0x0B#8]
  | .inc_c => [0x0C#8]
  | .dec_c => [0x0D#8]
  | .ld_c_n8 n => [0x0E#8, n]
  | .rrca => [0x0F#8]
  | .stop => [0x10#8]
  | .ld_de_n16 nn => [0x11#8, loByte nn, hiByte nn]
  | .ld_deInd_a => [0x12#8]
  | .inc_de => [0x13#8]
  | .inc_d => [0x14#8]
  | .dec_d => [0x15#8]
  | .ld_d_n8 n => [0x16#8, n]
  | .rla => [0x17#8]
  | .jr_e e => [0x18#8, e]
  | .add_hl_de => [0x19#8]
  | .ld_a_deInd => [0x1A#8]
  | .dec_de => [0x1B#8]
  | .inc_e => [0x1C#8]
  | .dec_e => [0x1D#8]
  | .ld_e_n8 n => [0x1E#8, n]
  | .rra => [0x1F#8]
  | .jr_nz_e e => [0x20#8, e]
  | .ld_hl_n16 nn => [0x21#8, loByte nn, hiByte nn]
  | .ld_hlInc_a => [0x22#8]
  | .inc_hl => [0x23#8]
  | .inc_h => [0x24#8]
  | .dec_h => [0x25#8]
  | .ld_h_n8 n => [0x26#8, n]
  | .daa => [0x27#8]
  | .jr_z_e e => [0x28#8, e]
  | .add_hl_hl => [0x29#8]
  | .ld_a_hlInc => [0x2A#8]
  | .dec_hl => [0x2B#8]
  | .inc_l => [0x2C#8]
  | .dec_l => [0x2D#8]
  | .ld_l_n8 n => [0x2E#8, n]
  | .cpl => [0x2F#8]
  | .jr_nc_e e => [0x30#8, e]
  | .ld_sp_n16 nn => [0x31#8, loByte nn, hiByte nn]
  | .ld_hlDec_a => [0x32#8]
  | .inc_sp => [0x33#8]
  | .inc_hlInd => [0x34#8]
  | .dec_hlInd => [0x35#8]
  | .ld_hlInd_n8 n => [0x36#8, n]
  | .scf => [0x37#8]
  | .jr_c_e e => [0x38#8, e]
  | .add_hl_sp => [0x39#8]
  | .ld_a_hlDec => [0x3A#8]
  | .dec_sp => [0x3B#8]
  | .inc_a => [0x3C#8]
  | .dec_a => [0x3D#8]
  | .ld_a_n8 n => [0x3E#8, n]
  | .ccf => [0x3F#8]
  | .ld_b_b => [0x40#8]
  | .ld_b_c => [0x41#8]
  | .ld_b_d => [0x42#8]
  | .ld_b_e => [0x43#8]
  | .ld_b_h => [0x44#8]
  | .ld_b_l => [0x45#8]
  | .ld_b_hlInd => [0x46#8]
  | .ld_b_a => [0x47#8]
  | .ld_c_b => [0x48#8]
  | .ld_c_c => [0x49#8]
  | .ld_c_d => [0x4A#8]
  | .ld_c_e => [0x4B#8]
  | .ld_c_h => [0x4C#8]
  | .ld_c_l => [0x4D#8]
  | .ld_c_hlInd => [0x4E#8]
  | .ld_c_a => [0x4F#8]
  | .ld_d_b => [0x50#8]
  | .ld_d_c => [0x51#8]
  | .ld_d_d => [0x52#8]
  | .ld_d_e => [0x53#8]
  | .ld_d_h => [0x54#8]
  | .ld_d_l => [0x55#8]
  | .ld_d_hlInd => [0x56#8]
  | .ld_d_a => [0x57#8]
  | .ld_e_b => [0x58#8]
  | .ld_e_c => [0x59#8]
  | .ld_e_d => [0x5A#8]
  | .ld_e_e => [0x5B#8]
  | .ld_e_h => [0x5C#8]
  | .ld_e_l => [0x5D#8]
  | .ld_e_hlInd => [0x5E#8]
  | .ld_e_a => [0x5F#8]
  | .ld_h_b => [0x60#8]
  | .ld_h_c => [0x61#8]
  | .ld_h_d => [0x62#8]
  | .ld_h_e => [0x63#8]
  | .ld_h_h => [0x64#8]
  | .ld_h_l => [0x65#8]
  | .ld_h_hlInd => [0x66#8]
  | .ld_h_a => [0x67#8]
  | .ld_l_b => [0x68#8]
  | .ld_l_c => [0x69#8]
  | .ld_l_d => [0x6A#8]
  | .ld_l_e => [0x6B#8]
  | .ld_l_h => [0x6C#8]
  | .ld_l_l => [0x6D#8]
  | .ld_l_hlInd => [0x6E#8]
  | .ld_l_a => [0x6F#8]
  | .ld_hlInd_b => [0x70#8]
  | .ld_hlInd_c => [0x71#8]
  | .ld_hlInd_d => [0x72#8]
  | .ld_hlInd_e => [0x73#8]
  | .ld_hlInd_h => [0x74#8]
  | .ld_hlInd_l => [0x75#8]
  | .halt => [0x76#8]
  | .ld_hlInd_a => [0x77#8]
  | .ld_a_b => [0x78#8]
  | .ld_a_c => [0x79#8]
  | .ld_a_d => [0x7A#8]
  | .ld_a_e => [0x7B#8]
  | .ld_a_h => [0x7C#8]
  | .ld_a_l => [0x7D#8]
  | .ld_a_hlInd => [0x7E#8]
  | .ld_a_a => [0x7F#8]
  | .add_a_b => [0x80#8]
  | .add_a_c => [0x81#8]
  | .add_a_d => [0x82#8]
  | .add_a_e => [0x83#8]
  | .add_a_h => [0x84#8]
  | .add_a_l => [0x85#8]
  | .add_a_hlInd => [0x86#8]
  | .add_a_a => [0x87#8]
  | .adc_a_b => [0x88#8]
  | .adc_a_c => [0x89#8]
  | .adc_a_d => [0x8A#8]
  | .adc_a_e => [0x8B#8]
  | .adc_a_h => [0x8C#8]
  | .adc_a_l => [0x8D#8]
  | .adc_a_hlInd => [0x8E#8]
  | .adc_a_a => [0x8F#8]
  | .sub_b => [0x90#8]
  | .sub_c => [0x91#8]
  | .sub_d => [0x92#8]
  | .sub_e => [0x93#8]
  | .sub_h => [0x94#8]
  | .sub_l => [0x95#8]
  | .sub_hlInd => [0x96#8]
  | .sub_a => [0x97#8]
  | .sbc_a_b => [0x98#8]
  | .sbc_a_c => [0x99#8]
  | .sbc_a_d => [0x9A#8]
  | .sbc_a_e => [0x9B#8]
  | .sbc_a_h => [0x9C#8]
  | .sbc_a_l => [0x9D#8]
  | .sbc_a_hlInd => [0x9E#8]
  | .sbc_a_a => [0x9F#8]
  | .and_b => [0xA0#8]
  | .and_c => [0xA1#8]
  | .and_d => [0xA2#8]
  | .and_e => [0xA3#8]
  | .and_h => [0xA4#8]
  | .and_l => [0xA5#8]
  | .and_hlInd => [0xA6#8]
  | .and_a => [0xA7#8]
  | .xor_b => [0xA8#8]
  | .xor_c => [0xA9#8]
  | .xor_d => [0xAA#8]
  | .xor_e => [0xAB#8]
  | .xor_h => [0xAC#8]
  | .xor_l => [0xAD#8]
  | .xor_hlInd => [0xAE#8]
  | .xor_a => [0xAF#8]
  | .or_b => [0xB0#8]
  | .or_c => [0xB1#8]
  | .or_d => [0xB2#8]
  | .or_e => [0xB3#8]
  | .or_h => [0xB4#8]
  | .or_l => [0xB5#8]
  | .or_hlInd => [0xB6#8]
  | .or_a => [0xB7#8]
  | .cp_b => [0xB8#8]
  | .cp_c => [0xB9#8]
  | .cp_d => [0xBA#8]
  | .cp_e => [0xBB#8]
  | .cp_h => [0xBC#8]
  | .cp_l => [0xBD#8]
  | .cp_hlInd => [0xBE#8]
  | .cp_a => [0xBF#8]
  | .ret_nz => [0xC0#8]
  | .pop_bc => [0xC1#8]
  | .jp_nz_nn nn => [0xC2#8, loByte nn, hiByte nn]
  | .jp_nn nn => [0xC3#8, loByte nn, hiByte nn]
  | .call_nz_nn nn => [0xC4#8, loByte nn, hiByte nn]
  | .push_bc => [0xC5#8]
  | .add_a_n8 n => [0xC6#8, n]
  | .rst_00h => [0xC7#8]
  | .ret_z => [0xC8#8]
  | .ret => [0xC9#8]
  | .jp_z_nn nn => [0xCA#8, loByte nn, hiByte nn]
  | .call_z_nn nn => [0xCC#8, loByte nn, hiByte nn]
  | .call_nn nn => [0xCD#8, loByte nn, hiByte nn]
  | .adc_a_n8 n => [0xCE#8, n]
  | .rst_08h => [0xCF#8]
  | .ret_nc => [0xD0#8]
  | .pop_de => [0xD1#8]
  | .jp_nc_nn nn => [0xD2#8, loByte nn, hiByte nn]
  | .call_nc_nn nn => [0xD4#8, loByte nn, hiByte nn]
  | .push_de => [0xD5#8]
  | .sub_n8 n => [0xD6#8, n]
  | .rst_10h => [0xD7#8]
  | .ret_c => [0xD8#8]
  | .reti => [0xD9#8]
  | .jp_c_nn nn => [0xDA#8, loByte nn, hiByte nn]
  | .call_c_nn nn => [0xDC#8, loByte nn, hiByte nn]
  | .sbc_a_n8 n => [0xDE#8, n]
  | .rst_18h => [0xDF#8]
  | .ld_ff00n_a n => [0xE0#8, n]
  | .pop_hl => [0xE1#8]
  | .ld_ff00c_a => [0xE2#8]
  | .push_hl => [0xE5#8]
  | .and_n8 n => [0xE6#8, n]
  | .rst_20h => [0xE7#8]
  | .add_sp_e e => [0xE8#8, e]
  | .jp_hl => [0xE9#8]
  | .ld_nnInd_a nn => [0xEA#8, loByte nn, hiByte nn]
  | .xor_n8 n => [0xEE#8, n]
  | .rst_28h => [0xEF#8]
  | .ld_a_ff00n n => [0xF0#8, n]
  | .pop_af => [0xF1#8]
  | .ld_a_ff00c => [0xF2#8]
  | .di => [0xF3#8]
  | .push_af => [0xF5#8]
  | .or_n8 n => [0xF6#8, n]
  | .rst_30h => [0xF7#8]
  | .ld_hl_spe e => [0xF8#8, e]
  | .ld_sp_hl => [0xF9#8]
  | .ld_a_nnInd nn => [0xFA#8, loByte nn, hiByte nn]
  | .ei => [0xFB#8]
  | .cp_n8 n => [0xFE#8, n]
  | .rst_38h => [0xFF#8]
  | .rlc_b => [0xCB#8, 0x00#8]
  | .rlc_c => [0xCB#8, 0x01#8]
  | .rlc_d => [0xCB#8, 0x02#8]
  | .rlc_e => [0xCB#8, 0x03#8]
  | .rlc_h => [0xCB#8, 0x04#8]
  | .rlc_l => [0xCB#8, 0x05#8]
  | .rlc_hlInd => [0xCB#8, 0x06#8]
  | .rlc_a => [0xCB#8, 0x07#8]
  | .rrc_b => [0xCB#8, 0x08#8]
  | .rrc_c => [0xCB#8, 0x09#8]
  | .rrc_d => [0xCB#8, 0x0A#8]
  | .rrc_e => [0xCB#8, 0x0B#8]
  | .rrc_h => [0xCB#8, 0x0C#8]
  | .rrc_l => [0xCB#8, 0x0D#8]
  | .rrc_hlInd => [0xCB#8, 0x0E#8]
  | .rrc_a => [0xCB#8, 0x0F#8]
  | .rl_b => [0xCB#8, 0x10#8]
  | .rl_c => [0xCB#8, 0x11#8]
  | .rl_d => [0xCB#8, 0x12#8]
  | .rl_e => [0xCB#8, 0x13#8]
  | .rl_h => [0xCB#8, 0x14#8]
  | .rl_l => [0xCB#8, 0x15#8]
  | .rl_hlInd => [0xCB#8, 0x16#8]
  | .rl_a => [0xCB#8, 0x17#8]
  | .rr_b => [0xCB#8, 0x18#8]
  | .rr_c => [0xCB#8, 0x19#8]
  | .rr_d => [0xCB#8, 0x1A#8]
  | .rr_e => [0xCB#8, 0x1B#8]
  | .rr_h => [0xCB#8, 0x1C#8]
  | .rr_l => [0xCB#8, 0x1D#8]
  | .rr_hlInd => [0xCB#8, 0x1E#8]
  | .rr_a => [0xCB#8, 0x1F#8]
  | .sla_b => [0xCB#8, 0x20#8]
  | .sla_c => [0xCB#8, 0x21#8]
  | .sla_d => [0xCB#8, 0x22#8]
  | .sla_e => [0xCB#8, 0x23#8]
  | .sla_h => [0xCB#8, 0x24#8]
  | .sla_l => [0xCB#8, 0x25#8]
  | .sla_hlInd => [0xCB#8, 0x26#8]
  | .sla_a => [0xCB#8, 0x27#8]
  | .sra_b => [0xCB#8, 0x28#8]
  | .sra_c => [0xCB#8, 0x29#8]
  | .sra_d => [0xCB#8, 0x2A#8]
  | .sra_e => [0xCB#8, 0x2B#8]
  | .sra_h => [0xCB#8, 0x2C#8]
  | .sra_l => [0xCB#8, 0x2D#8]
  | .sra_hlInd => [0xCB#8, 0x2E#8]
  | .sra_a => [0xCB#8, 0x2F#8]
  | .swap_b => [0xCB#8, 0x30#8]
  | .swap_c => [0xCB#8, 0x31#8]
  | .swap_d => [0xCB#8, 0x32#8]
  | .swap_e => [0xCB#8, 0x33#8]
  | .swap_h => [0xCB#8, 0x34#8]
  | .swap_l => [0xCB#8, 0x35#8]
  | .swap_hlInd => [0xCB#8, 0x36#8]
  | .swap_a => [0xCB#8, 0x37#8]
  | .srl_b => [0xCB#8, 0x38#8]
  | .srl_c => [0xCB#8, 0x39#8]
  | .srl_d => [0xCB#8, 0x3A#8]
  | .srl_e => [0xCB#8, 0x3B#8]
  | .srl_h => [0xCB#8, 0x3C#8]
  | .srl_l => [0xCB#8, 0x3D#8]
  | .srl_hlInd => [0xCB#8, 0x3E#8]
  | .srl_a => [0xCB#8, 0x3F#8]
  | .bit_0_b => [0xCB#8, 0x40#8]
  | .bit_0_c => [0xCB#8, 0x41#8]
  | .bit_0_d => [0xCB#8, 0x42#8]
  | .bit_0_e => [0xCB#8, 0x43#8]
  | .bit_0_h => [0xCB#8, 0x44#8]
  | .bit_0_l => [0xCB#8, 0x45#8]
  | .bit_0_hlInd => [0xCB#8, 0x46#8]
  | .bit_0_a => [0xCB#8, 0x47#8]
  | .bit_1_b => [0xCB#8, 0x48#8]
  | .bit_1_c => [0xCB#8, 0x49#8]
  | .bit_1_d => [0xCB#8, 0x4A#8]
  | .bit_1_e => [0xCB#8, 0x4B#8]
  | .bit_1_h => [0xCB#8, 0x4C#8]
  | .bit_1_l => [0xCB#8, 0x4D#8]
  | .bit_1_hlInd => [0xCB#8, 0x4E#8]
  | .bit_1_a => [0xCB#8, 0x4F#8]
  | .bit_2_b => [0xCB#8, 0x50#8]
  | .bit_2_c => [0xCB#8, 0x51#8]
  | .bit_2_d => [0xCB#8, 0x52#8]
  | .bit_2_e => [0xCB#8, 0x53#8]
  | .bit_2_h => [0xCB#8, 0x54#8]
  | .bit_2_l => [0xCB#8, 0x55#8]
  | .bit_2_hlInd => [0xCB#8, 0x56#8]
  | .bit_2_a => [0xCB#8, 0x57#8]
  | .bit_3_b => [0xCB#8, 0x58#8]
  | .bit_3_c => [0xCB#8, 0x59#8]
  | .bit_3_d => [0xCB#8, 0x5A#8]
  | .bit_3_e => [0xCB#8, 0x5B#8]
  | .bit_3_h => [0xCB#8, 0x5C#8]
  | .bit_3_l => [0xCB#8, 0x5D#8]
  | .bit_3_hlInd => [0xCB#8, 0x5E#8]
  | .bit_3_a => [0xCB#8, 0x5F#8]
  | .bit_4_b => [0xCB#8, 0x60#8]
  | .bit_4_c => [0xCB#8, 0x61#8]
  | .bit_4_d => [0xCB#8, 0x62#8]
  | .bit_4_e => [0xCB#8, 0x63#8]
  | .bit_4_h => [0xCB#8, 0x64#8]
  | .bit_4_l => [0xCB#8, 0x65#8]
  | .bit_4_hlInd => [0xCB#8, 0x66#8]
  | .bit_4_a => [0xCB#8, 0x67#8]
  | .bit_5_b => [0xCB#8, 0x68#8]
  | .bit_5_c => [0xCB#8, 0x69#8]
  | .bit_5_d => [0xCB#8, 0x6A#8]
  | .bit_5_e => [0xCB#8, 0x6B#8]
  | .bit_5_h => [0xCB#8, 0x6C#8]
  | .bit_5_l => [0xCB#8, 0x6D#8]
  | .bit_5_hlInd => [0xCB#8, 0x6E#8]
  | .bit_5_a => [0xCB#8, 0x6F#8]
  | .bit_6_b => [0xCB#8, 0x70#8]
  | .bit_6_c => [0xCB#8, 0x71#8]
  | .bit_6_d => [0xCB#8, 0x72#8]
  | .bit_6_e => [0xCB#8, 0x73#8]
  | .bit_6_h => [0xCB#8, 0x74#8]
  | .bit_6_l => [0xCB#8, 0x75#8]
  | .bit_6_hlInd => [0xCB#8, 0x76#8]
  | .bit_6_a => [0xCB#8, 0x77#8]
  | .bit_7_b => [0xCB#8, 0x78#8]
  | .bit_7_c => [0xCB#8, 0x79#8]
  | .bit_7_d => [0xCB#8, 0x7A#8]
  | .bit_7_e => [0xCB#8, 0x7B#8]
  | .bit_7_h => [0xCB#8, 0x7C#8]
  | .bit_7_l => [0xCB#8, 0x7D#8]
  | .bit_7_hlInd => [0xCB#8, 0x7E#8]
  | .bit_7_a => [0xCB#8, 0x7F#8]
  | .res_0_b => [0xCB#8, 0x80#8]
  | .res_0_c => [0xCB#8, 0x81#8]
  | .res_0_d => [0xCB#8, 0x82#8]
  | .res_0_e => [0xCB#8, 0x83#8]
  | .res_0_h => [0xCB#8, 0x84#8]
  | .res_0_l => [0xCB#8, 0x85#8]
  | .res_0_hlInd => [0xCB#8, 0x86#8]
  | .res_0_a => [0xCB#8, 0x87#8]
  | .res_1_b => [0xCB#8, 0x88#8]
  | .res_1_c => [0xCB#8, 0x89#8]
  | .res_1_d => [0xCB#8, 0x8A#8]
  | .res_1_e => [0xCB#8, 0x8B#8]
  | .res_1_h => [0xCB#8, 0x8C#8]
  | .res_1_l => [0xCB#8, 0x8D#8]
  | .res_1_hlInd => [0xCB#8, 0x8E#8]
  | .res_1_a => [0xCB#8, 0x8F#8]
  | .res_2_b => [0xCB#8, 0x90#8]
  | .res_2_c => [0xCB#8, 0x91#8]
  | .res_2_d => [0xCB#8, 0x92#8]
  | .res_2_e => [0xCB#8, 0x93#8]
  | .res_2_h => [0xCB#8, 0x94#8]
  | .res_2_l => [0xCB#8, 0x95#8]
  | .res_2_hlInd => [0xCB#8, 0x96#8]
  | .res_2_a => [0xCB#8, 0x97#8]
  | .res_3_b => [0xCB#8, 0x98#8]
  | .res_3_c => [0xCB#8, 0x99#8]
  | .res_3_d => [0xCB#8, 0x9A#8]
  | .res_3_e => [0xCB#8, 0x9B#8]
  | .res_3_h => [0xCB#8, 0x9C#8]
  | .res_3_l => [0xCB#8, 0x9D#8]
  | .res_3_hlInd => [0xCB#8, 0x9E#8]
  | .res_3_a => [0xCB#8, 0x9F#8]
  | .res_4_b => [0xCB#8, 0xA0#8]
  | .res_4_c => [0xCB#8, 0xA1#8]
  | .res_4_d => [0xCB#8, 0xA2#8]
  | .res_4_e => [0xCB#8, 0xA3#8]
  | .res_4_h => [0xCB#8, 0xA4#8]
  | .res_4_l => [0xCB#8, 0xA5#8]
  | .res_4_hlInd => [0xCB#8, 0xA6#8]
  | .res_4_a => [0xCB#8, 0xA7#8]
  | .res_5_b => [0xCB#8, 0xA8#8]
  | .res_5_c => [0xCB#8, 0xA9#8]
  | .res_5_d => [0xCB#8, 0xAA#8]
  | .res_5_e => [0xCB#8, 0xAB#8]
  | .res_5_h => [0xCB#8, 0xAC#8]
  | .res_5_l => [0xCB#8, 0xAD#8]
  | .res_5_hlInd => [0xCB#8, 0xAE#8]
  | .res_5_a => [0xCB#8, 0xAF#8]
  | .res_6_b => [0xCB#8, 0xB0#8]
  | .res_6_c => [0xCB#8, 0xB1#8]
  | .res_6_d => [0xCB#8, 0xB2#8]
  | .res_6_e => [0xCB#8, 0xB3#8]
  | .res_6_h => [0xCB#8, 0xB4#8]
  | .res_6_l => [0xCB#8, 0xB5#8]
  | .res_6_hlInd => [0xCB#8, 0xB6#8]
  | .res_6_a => [0xCB#8, 0xB7#8]
  | .res_7_b => [0xCB#8, 0xB8#8]
  | .res_7_c => [0xCB#8, 0xB9#8]
  | .res_7_d => [0xCB#8, 0xBA#8]
  | .res_7_e => [0xCB#8, 0xBB#8]
  | .res_7_h => [0xCB#8, 0xBC#8]
  | .res_7_l => [0xCB#8, 0xBD#8]
  | .res_7_hlInd => [0xCB#8, 0xBE#8]
  | .res_7_a => [0xCB#8, 0xBF#8]
  | .set_0_b => [0xCB#8, 0xC0#8]
  | .set_0_c => [0xCB#8, 0xC1#8]
  | .set_0_d => [0xCB#8, 0xC2#8]
  | .set_0_e => [0xCB#8, 0xC3#8]
  | .set_0_h => [0xCB#8, 0xC4#8]
  | .set_0_l => [0xCB#8, 0xC5#8]
  | .set_0_hlInd => [0xCB#8, 0xC6#8]
  | .set_0_a => [0xCB#8, 0xC7#8]
  | .set_1_b => [0xCB#8, 0xC8#8]
  | .set_1_c => [0xCB#8, 0xC9#8]
  | .set_1_d => [0xCB#8, 0xCA#8]
  | .set_1_e => [0xCB#8, 0xCB#8]
  | .set_1_h => [0xCB#8, 0xCC#8]
  | .set_1_l => [0xCB#8, 0xCD#8]
  | .set_1_hlInd => [0xCB#8, 0xCE#8]
  | .set_1_a => [0xCB#8, 0xCF#8]
  | .set_2_b => [0xCB#8, 0xD0#8]
  | .set_2_c => [0xCB#8, 0xD1#8]
  | .set_2_d => [0xCB#8, 0xD2#8]
  | .set_2_e => [0xCB#8, 0xD3#8]
  | .set_2_h => [0xCB#8, 0xD4#8]
  | .set_2_l => [0xCB#8, 0xD5#8]
  | .set_2_hlInd => [0xCB#8, 0xD6#8]
  | .set_2_a => [0xCB#8, 0xD7#8]
  | .set_3_b => [0xCB#8, 0xD8#8]
  | .set_3_c => [0xCB#8, 0xD9#8]
  | .set_3_d => [0xCB#8, 0xDA#8]
  | .set_3_e => [0xCB#8, 0xDB#8]
  | .set_3_h => [0xCB#8, 0xDC#8]
  | .set_3_l => [0xCB#8, 0xDD#8]
  | .set_3_hlInd => [0xCB#8, 0xDE#8]
  | .set_3_a => [0xCB#8, 0xDF#8]
  | .set_4_b => [0xCB#8, 0xE0#8]
  | .set_4_c => [0xCB#8, 0xE1#8]
  | .set_4_d => [0xCB#8, 0xE2#8]
  | .set_4_e => [0xCB#8, 0xE3#8]
  | .set_4_h => [0xCB#8, 0xE4#8]
  | .set_4_l => [0xCB#8, 0xE5#8]
  | .set_4_hlInd => [0xCB#8, 0xE6#8]
  | .set_4_a => [0xCB#8, 0xE7#8]
  | .set_5_b => [0xCB#8, 0xE8#8]
  | .set_5_c => [0xCB#8, 0xE9#8]
  | .set_5_d => [0xCB#8, 0xEA#8]
  | .set_5_e => [0xCB#8, 0xEB#8]
  | .set_5_h => [0xCB#8, 0xEC#8]
  | .set_5_l => [0xCB#8, 0xED#8]
  | .set_5_hlInd => [0xCB#8, 0xEE#8]
  | .set_5_a => [0xCB#8, 0xEF#8]
  | .set_6_b => [0xCB#8, 0xF0#8]
  | .set_6_c => [0xCB#8, 0xF1#8]
  | .set_6_d => [0xCB#8, 0xF2#8]
  | .set_6_e => [0xCB#8, 0xF3#8]
  | .set_6_h => [0xCB#8, 0xF4#8]
  | .set_6_l => [0xCB#8, 0xF5#8]
  | .set_6_hlInd => [0xCB#8, 0xF6#8]
  | .set_6_a => [0xCB#8, 0xF7#8]
  | .set_7_b => [0xCB#8, 0xF8#8]
  | .set_7_c => [0xCB#8, 0xF9#8]
  | .set_7_d => [0xCB#8, 0xFA#8]
  | .set_7_e => [0xCB#8, 0xFB#8]
  | .set_7_h => [0xCB#8, 0xFC#8]
  | .set_7_l => [0xCB#8, 0xFD#8]
  | .set_7_hlInd => [0xCB#8, 0xFE#8]
  | .set_7_a => [0xCB#8, 0xFF#8]
  | .unimplemented op => [op]

end Sys2Proof
end

