-- ==== Sys2Proof/Machine/State.lean ====
section
/-! DEFINITION. The whole state of the core (`10_state.md` R37), the reasons a step can stop, and the state after init
(`10_state.md` R36, `70_reset_and_hazards.md` R194). -/

namespace Sys2Proof.Machine

/-- The reasons the machine stops with a fault. -/
inductive Fault where
  /-- The error UnimplementedOpcode under `UNIMPL_POLICY = Fatal` (`10_state.md` R29, `43_misc.md` R151). It is put into the
  state's fault mark by the UNIMPLEMENTED instruction; `step` answers it at every state whose fault mark is set, because such
  a state takes no further step (`60_exceptions.md` R168, R173). Safe: the spec ends the run there. -/
  | unimplementedOpcode (op : Byte)
  deriving DecidableEq, Repr

/-- The reasons a request has no meaning. No instruction raises one (`00_scope.md` R12). -/
inductive Refusal where
  /-- An instruction with no meaning yet; raised only by an arm of `exec`. Safe. -/
  | notModelled (mnemonic : String)
  /-- `getPixel` outside the 160 x 144 frame, to which the spec gives no value (`60_exceptions.md` R187). Raised by `getPixel`
  only, never by `step`. Safe. -/
  | pixelOutsideFrame
  /-- The loader's InvalidROMSize: an image of more than 65 536 bytes (`70_reset_and_hazards.md` R195). Raised by `loadRom`
  and `launch`, never by `step`. Safe. -/
  | invalidRomSize
  /-- The loader's InvalidROM: no image (`70_reset_and_hazards.md` R195). Raised by `launch`, never by `step`. Safe. -/
  | invalidRom
  deriving DecidableEq, Repr

/-- The 64 KiB byte array (`20_memory.md` R38) as the list of the bytes that differ from their init value, addresses rising
(`Memory.wf`, `Machine/Memory.lean`). -/
abbrev Memory := List Host.Cell

/-- The complete state (`10_state.md` R37). `draws` is the model's own field, not the spec's: how many `UNIMPL_CYCLES` values
have been drawn (log 2). -/
structure State where
  /-- register A (R15) -/
  a : Byte
  /-- register B (R15) -/
  b : Byte
  /-- register C (R15) -/
  c : Byte
  /-- register D (R15) -/
  d : Byte
  /-- register E (R15) -/
  e : Byte
  /-- register H (R15) -/
  h : Byte
  /-- register L (R15) -/
  l : Byte
  /-- the flag register F: Z, N, H, C in bits 7 to 4, the low nibble always zero (R19) -/
  f : Byte
  /-- the stack pointer (R23) -/
  sp : Word
  /-- the program counter: between steps, the address of the next instruction's first byte (R22) -/
  pc : Word
  /-- the memory array (R33) -/
  mem : Memory
  /-- the interrupt master enable: written, never read (R25) -/
  ime : Bool
  /-- set by the HALT instruction (R27) -/
  halt : Bool
  /-- T-cycles consumed (R26) -/
  cycles : Nat
  /-- the most recent unimplemented opcode met (R28) -/
  unimpl : Option Byte
  /-- the fault mark (R29) -/
  fault : Option Fault
  /-- the model's own counter of `UNIMPL_CYCLES` draws (log 2) -/
  draws : Nat
  deriving DecidableEq, Repr

/-- The state init installs (`10_state.md` R36, `70_reset_and_hazards.md` R194). No byte of memory is listed: an unlisted byte
reads as its init value (`Memory.initial`). DESIGN CHOICE: `draws := 0` (log 2). -/
def State.reset : State where
  a := 0x01#8
  b := 0x00#8
  c := 0x13#8
  d := 0x00#8
  e := 0xD8#8
  h := 0x01#8
  l := 0x4D#8
  f := 0xB0#8
  sp := 0xFFFE#16
  pc := 0x0100#16
  mem := []
  ime := false
  halt := false
  cycles := 0
  unimpl := none
  fault := none
  draws := 0

end Sys2Proof.Machine
end

