-- ==== Sys2Proof/Machine/Memory.lean ====
section
/-! DEFINITION. The byte array behind `State.mem`: what an unlisted byte reads as, the canonical form, one read and one write
(`20_memory.md` R38, R42 to R44). Everything wider is built from these two in `Machine/Ops.lean`. -/

namespace Sys2Proof.Machine

/-- What a byte that nothing has written reads as: the init value of `10_state.md` R36 (`20_memory.md` R42): LCDC 0x91, BGP
0xE4, every other byte 0x00. -/
def Memory.initial (a : Nat) : Byte :=
  if a = 0xFF40 then 0x91#8 else if a = 0xFF47 then 0xE4#8 else 0x00#8

/-- The byte at key `k` of a cell list. -/
def Memory.lookup (k : Nat) : Memory → Byte
  | [] => Memory.initial k
  | cell :: rest => if cell.1 = k then cell.2 else Memory.lookup k rest

/-- Put `v` at key `k`, keeping the addresses rising. -/
def Memory.insert (k : Nat) (v : Byte) : Memory → Memory
  | [] => [(k, v)]
  | cell :: rest =>
    if k < cell.1 then (k, v) :: cell :: rest
    else if k = cell.1 then (k, v) :: rest
    else cell :: Memory.insert k v rest

/-- `read_byte(a)`: direct indexed array access (`20_memory.md` R43). -/
def Memory.read (m : Memory) (a : Word) : Byte := Memory.lookup a.toNat m

/-- `write_byte(a, v)`: direct indexed array access (`20_memory.md` R44). Writing the value an unlisted byte reads as removes
the entry, so that equal memories are equal lists. -/
def Memory.write (m : Memory) (a : Word) (v : Byte) : Memory :=
  if v = Memory.initial a.toNat then m.filter (fun cell => cell.1 ≠ a.toNat)
  else Memory.insert a.toNat v m

/-- The canonical form: addresses strictly rising, each below 65 536, none listed with the value it would read as unlisted. -/
abbrev Memory.wf (m : Memory) : Prop :=
  m.Pairwise (fun x y => x.1 < y.1) ∧ ∀ cell ∈ m, cell.1 < 65536 ∧ cell.2 ≠ Memory.initial cell.1

end Sys2Proof.Machine
end

