-- ==== Sys2Proof/Machine/Ops.lean ====
section
/-! DEFINITION. The named operations over registers and memory that every instruction is written with: register and pair
views (`10_state.md` R15 to R18, R24), memory primitives (`20_memory.md` R43 to R46), the stack helpers (`40_loads.md` R102,
R103), the program counter and the cycle counter (`00_scope.md` R11), and the one error event of the core (`43_misc.md` R151). -/

namespace Sys2Proof.Machine

/-- The outcome of a step or of an instruction. -/
abbrev Result := Host.Outcome State Fault Refusal

/-- The seven general registers (`10_state.md` R15), in the order of the register field (`30_encoding.md` R57). -/
inductive Reg8 where
  | b | c | d | e | h | l | a
  deriving DecidableEq, Repr

/-- The pair field `r16` (`30_encoding.md` R58). -/
inductive Reg16 where
  | bc | de | hl | sp
  deriving DecidableEq, Repr

/-- The pair field `r16stk` of PUSH and POP (`30_encoding.md` R59). -/
inductive StackPair where
  | bc | de | hl | af
  deriving DecidableEq, Repr

/-- Read a general register (`10_state.md` R16). -/
def State.reg8 (s : State) : Reg8 → Byte
  | .b => s.b
  | .c => s.c
  | .d => s.d
  | .e => s.e
  | .h => s.h
  | .l => s.l
  | .a => s.a

/-- Write a general register (`10_state.md` R16). -/
def State.setReg8 (s : State) (r : Reg8) (v : Byte) : State :=
  match r with
  | .b => { s with b := v }
  | .c => { s with c := v }
  | .d => { s with d := v }
  | .e => { s with e := v }
  | .h => { s with h := v }
  | .l => { s with l := v }
  | .a => { s with a := v }

/-- `AF = A:F` (`10_state.md` R17). -/
def State.af (s : State) : Word := pairWord s.a s.f

/-- `BC = B:C` (`10_state.md` R17). -/
def State.bc (s : State) : Word := pairWord s.b s.c

/-- `DE = D:E` (`10_state.md` R17). -/
def State.de (s : State) : Word := pairWord s.d s.e

/-- `HL = H:L` (`10_state.md` R17). -/
def State.hl (s : State) : Word := pairWord s.h s.l

/-- Write BC (`10_state.md` R17). -/
def State.setBc (s : State) (v : Word) : State := { s with b := hiByte v, c := loByte v }

/-- Write DE (`10_state.md` R17). -/
def State.setDe (s : State) (v : Word) : State := { s with d := hiByte v, e := loByte v }

/-- Write HL (`10_state.md` R17). -/
def State.setHl (s : State) (v : Word) : State := { s with h := hiByte v, l := loByte v }

/-- `set_af(v)`: the low nibble of F is masked to zero (`10_state.md` R18, `90_conflicts.md` C1). -/
def State.setAf (s : State) (v : Word) : State := { s with a := hiByte v, f := loByte v &&& 0xF0#8 }

/-- Read the pair a field `r16` names (`30_encoding.md` R58). -/
def State.reg16 (s : State) : Reg16 → Word
  | .bc => s.bc
  | .de => s.de
  | .hl => s.hl
  | .sp => s.sp

/-- Write the pair a field `r16` names (`30_encoding.md` R58). -/
def State.setReg16 (s : State) (p : Reg16) (v : Word) : State :=
  match p with
  | .bc => s.setBc v
  | .de => s.setDe v
  | .hl => s.setHl v
  | .sp => { s with sp := v }

/-- Read the pair a field `r16stk` names (`30_encoding.md` R59). -/
def State.stackPair (s : State) : StackPair → Word
  | .bc => s.bc
  | .de => s.de
  | .hl => s.hl
  | .af => s.af

/-- Write the pair a field `r16stk` names (`30_encoding.md` R59); AF through `set_af`. -/
def State.setStackPair (s : State) (p : StackPair) (v : Word) : State :=
  match p with
  | .bc => s.setBc v
  | .de => s.setDe v
  | .hl => s.setHl v
  | .af => s.setAf v

/-- `hli()`: the current HL, and HL incremented with 16-bit wrap (`10_state.md` R24). -/
def State.hli (s : State) : Word × State := (s.hl, s.setHl (s.hl + 1#16))

/-- `hld()`: the current HL, and HL decremented with 16-bit wrap (`10_state.md` R24). -/
def State.hld (s : State) : Word × State := (s.hl, s.setHl (s.hl - 1#16))

/-- `read_byte(a)` (`20_memory.md` R43). -/
def State.readByte (s : State) (a : Word) : Byte := s.mem.read a

/-- `write_byte(a, v)` (`20_memory.md` R44). -/
def State.writeByte (s : State) (a : Word) (v : Byte) : State := { s with mem := s.mem.write a v }

/-- `read_word(a)`: low byte at `a`, high byte at `a + 1` modulo 65 536 (`20_memory.md` R45). -/
def State.readWord (s : State) (a : Word) : Word := pairWord (s.readByte (a + 1#16)) (s.readByte a)

/-- `write_word(a, v)`: low byte to `a`, then high byte to `a + 1` modulo 65 536 (`20_memory.md` R46). -/
def State.writeWord (s : State) (a v : Word) : State :=
  (s.writeByte a (loByte v)).writeByte (a + 1#16) (hiByte v)

/-- Consecutive bytes stored from `a` on, modulo 65 536: how an image or an instruction is placed in memory. -/
def State.writeBytes (s : State) (a : Word) : List Byte → State
  | [] => s
  | v :: rest => (s.writeByte a v).writeBytes (a + 1#16) rest

/-- `Push16(v)`: pre-decrement SP by 2, then `write_word` (`40_loads.md` R102). -/
def State.push16 (s : State) (v : Word) : State :=
  ({ s with sp := s.sp - 2#16 }).writeWord (s.sp - 2#16) v

/-- `Pop16()`: `read_word` at SP, then post-increment SP by 2 (`40_loads.md` R103). -/
def State.pop16 (s : State) : Word × State := (s.readWord s.sp, { s with sp := s.sp + 2#16 })

/-- `PC <- target` (`00_scope.md` R11). -/
def State.jump (s : State) (target : Word) : State := { s with pc := target }

/-- `Cycles(n)` (`00_scope.md` R11). -/
def State.addCycles (s : State) (n : Nat) : State := { s with cycles := s.cycles + n }

/-- An 8-bit offset read as a signed number, at 16 bits: `sext_16(e)` modulo 65 536 (`00_scope.md` R8, `30_encoding.md` R63). -/
def signExtend (e : Byte) : Word := e.signExtend 16

/-- `FF00 + v`, an address of the 0xFF00 page (`30_encoding.md` R63). -/
def highPage (v : Byte) : Word := pairWord 0xFF#8 v

/-- The one error event of the core, `raise UnimplementedOpcode(op)`, under a policy (`43_misc.md` R151): it is precise, saves
nothing, changes no mode and takes no vector (`60_exceptions.md` R169, R173, R174). Under Record the opcode is recorded and a
fresh free value is charged (log 2); under Fatal the fault mark is set and nothing is charged. -/
def State.raiseUnimplemented (s : State) (policy : UnimplPolicy) (op : Byte) : State :=
  match policy with
  | .record =>
    ({ s with unimpl := some op, draws := s.draws + 1 }).addCycles (Config.unimplCycles s.draws)
  | .fatal => { s with fault := some (.unimplementedOpcode op) }

end Sys2Proof.Machine
end

