-- ==== Sys2Proof/Machine/Flags.lean ====
section
/-! DEFINITION. The flag unit (`10_state.md` R19, R20) and every result-and-flags computation of the spec: the ALU contract
(`41_alu.md` R106 to R115), 16-bit addition (R118), `sp_add` (R120), the rotates and shifts (`43_misc.md` R138 to R141,
`44_cb_prefix.md` R154 to R161) and the decimal adjustment (`43_misc.md` R142). Flag conditions are computed in exact natural
numbers (`00_scope.md` R8). -/

namespace Sys2Proof.Machine

/-- The four condition flags (`10_state.md` R19). -/
inductive Flag where
  | z | n | h | c
  deriving DecidableEq, Repr

/-- The bit of F a flag is: Z 7, N 6, H 5, C 4 (`10_state.md` R19). -/
def Flag.bit : Flag → Nat
  | .z => 7
  | .n => 6
  | .h => 5
  | .c => 4

/-- F with one flag's bit written, the other seven bits as they were (`10_state.md` R20). -/
def putFlag (f : Byte) (x : Flag) (v : Bool) : Byte :=
  if v then f ||| (1#8 <<< x.bit) else f &&& ~~~(1#8 <<< x.bit)

/-- `getFlag(flag)` (`10_state.md` R20). -/
def State.flag (s : State) (x : Flag) : Bool := s.f.getLsbD x.bit

/-- `setFlag(flag, b)` (`10_state.md` R20). -/
def State.setFlag (s : State) (x : Flag) (v : Bool) : State := { s with f := putFlag s.f x v }

/-- All four flags written with `setFlag`. -/
def State.setFlags (s : State) (z n h c : Bool) : State :=
  (((s.setFlag .z z).setFlag .n n).setFlag .h h).setFlag .c c

/-- Z, N and H written, C as it was. -/
def State.setZnh (s : State) (z n h : Bool) : State :=
  ((s.setFlag .z z).setFlag .n n).setFlag .h h

/-- N, H and C written, Z as it was. -/
def State.setNhc (s : State) (n h c : Bool) : State :=
  ((s.setFlag .n n).setFlag .h h).setFlag .c c

/-- A result byte and the four flags that go with it. -/
structure AluResult where
  value : Byte
  z : Bool
  n : Bool
  h : Bool
  c : Bool
  deriving DecidableEq, Repr

/-- `a + v + cin` (`41_alu.md` R106 with `cin` false, R107). -/
def addCarry (a v : Byte) (cin : Bool) : AluResult :=
  let r := BitVec.ofNat 8 (a.toNat + v.toNat + cin.toNat)
  { value := r
    z := r == 0#8
    n := false
    h := decide (a.toNat % 16 + v.toNat % 16 + cin.toNat > 0xF)
    c := decide (a.toNat + v.toNat + cin.toNat > 0xFF) }

/-- `a - v - bin` (`41_alu.md` R108 with `bin` false, R109). The sums on the right are not truncated (R109). -/
def subBorrow (a v : Byte) (bin : Bool) : AluResult :=
  let r := a - v - BitVec.ofNat 8 bin.toNat
  { value := r
    z := r == 0#8
    n := true
    h := decide (a.toNat % 16 < v.toNat % 16 + bin.toNat)
    c := decide (a.toNat < v.toNat + bin.toNat) }

/-- The flags of a bitwise result: Z from it, N = 0, C = 0, H as the operation forces it (`41_alu.md` R110 to R112). -/
def logicResult (r : Byte) (h : Bool) : AluResult :=
  { value := r, z := r == 0#8, n := false, h := h, c := false }

/-- The half carry of `v + 1`: the low nibble was 0xF before (`41_alu.md` R114). -/
def incHalf (v : Byte) : Bool := decide (v.toNat % 16 = 0xF)

/-- The half carry of `v - 1`: the low nibble was 0 before (`41_alu.md` R115). -/
def decHalf (v : Byte) : Bool := decide (v.toNat % 16 = 0)

/-- A 16-bit sum with its half carry and carry. -/
structure SumResult where
  value : Word
  h : Bool
  c : Bool
  deriving DecidableEq, Repr

/-- `HL + v`: half carry out of bit 11, carry out of bit 15 (`41_alu.md` R118). -/
def addWords (hl v : Word) : SumResult :=
  { value := hl + v
    h := decide (hl.toNat % 0x1000 + v.toNat % 0x1000 > 0xFFF)
    c := decide (hl.toNat + v.toNat > 0xFFFF) }

/-- `sp_add(sp, e)`: the sum with the signed offset; the flags are those of an unsigned addition to the low byte
(`41_alu.md` R120). -/
def spAdd (sp : Word) (e : Byte) : SumResult :=
  { value := sp + signExtend e
    h := decide (sp.toNat % 0x10 + e.toNat % 0x10 > 0xF)
    c := decide (sp.toNat % 0x100 + e.toNat > 0xFF) }

/-- A shifted byte and the bit shifted out. -/
structure ShiftResult where
  value : Byte
  carry : Bool
  deriving DecidableEq, Repr

/-- A left shift by one with `low` entering bit 0; C is the old bit 7 (`43_misc.md` R138, R140; `44_cb_prefix.md` R154, R156,
R158). -/
def shiftLeft (v : Byte) (low : Bool) : ShiftResult :=
  { value := (v <<< 1) ||| (if low then 0x01#8 else 0#8), carry := v.getLsbD 7 }

/-- A right shift by one with `high` entering bit 7; C is the old bit 0 (`43_misc.md` R139, R141; `44_cb_prefix.md` R155,
R157, R159, R160). -/
def shiftRight (v : Byte) (high : Bool) : ShiftResult :=
  { value := (v >>> 1) ||| (if high then 0x80#8 else 0#8), carry := v.getLsbD 0 }

/-- The nibbles exchanged; C = 0 (`44_cb_prefix.md` R161). -/
def swapNibbles (v : Byte) : ShiftResult :=
  { value := ((v &&& 0x0F#8) <<< 4) ||| (v >>> 4), carry := false }

/-- The decimal adjustment of A (`43_misc.md` R142): the adjusted byte and the carry. -/
def daaResult (a : Byte) (n h c : Bool) : ShiftResult :=
  if n then
    { value := a - (if c then 0x60#8 else 0#8) - (if h then 0x06#8 else 0#8), carry := c }
  else
    { value := a + (if c || decide (a.toNat > 0x99) then 0x60#8 else 0#8)
                 + (if h || decide (a.toNat % 16 > 0x09) then 0x06#8 else 0#8)
      carry := c || decide (a.toNat > 0x99) }

end Sys2Proof.Machine
end

