-- ==== Sys2Proof/Machine/Operands.lean ====
section
/-! DEFINITION. The operand forms: the 3-bit field `r8` (`30_encoding.md` R57), the source of the A-ALU operations
(`41_alu.md` R105), the bit number (`30_encoding.md` R63), and the condition field `cc` (`30_encoding.md` R60, `42_control.md`
R125). -/

namespace Sys2Proof.Machine

/-- The operand a 3-bit field `r8` names: a register, or for the value 6 the byte mem[HL] (`30_encoding.md` R57). -/
inductive Operand8 where
  | reg (r : Reg8)
  | atHl
  deriving DecidableEq, Repr

/-- `R8[i]` (`00_scope.md` R9). -/
def State.read8 (s : State) : Operand8 → Byte
  | .reg r => s.reg8 r
  | .atHl => s.readByte s.hl

/-- `R8[i] <- v` (`00_scope.md` R9). -/
def State.write8 (s : State) (x : Operand8) (v : Byte) : State :=
  match x with
  | .reg r => s.setReg8 r v
  | .atHl => s.writeByte s.hl v

/-- What an instruction costs by its operand: `reg` for a register, `mem` for (HL). -/
def Operand8.cost (x : Operand8) (reg mem : Nat) : Nat :=
  match x with
  | .reg _ => reg
  | .atHl => mem

/-- The three forms of an ALU source: register, (HL), immediate (`41_alu.md` R105). -/
inductive AluSource where
  | operand (x : Operand8)
  | imm (n : Byte)
  deriving DecidableEq, Repr

/-- `src`, read once before the operation (`41_alu.md` R105). -/
def State.source (s : State) : AluSource → Byte
  | .operand x => s.read8 x
  | .imm n => n

/-- The cost of an ALU operation by its source: 4, 8, 8 (`41_alu.md` R105; log 5). -/
def AluSource.cost : AluSource → Nat
  | .operand x => x.cost 4 8
  | .imm _ => 8

/-- The condition field (`30_encoding.md` R60). -/
inductive Cond where
  | nz | z | nc | c
  deriving DecidableEq, Repr

/-- `cond(cc)`: it reads Z or C (`42_control.md` R125). -/
def State.cond (s : State) : Cond → Bool
  | .nz => !s.flag .z
  | .z => s.flag .z
  | .nc => !s.flag .c
  | .c => s.flag .c

end Sys2Proof.Machine
end

