-- ==== Sys2Proof/Machine/AluByte.lean ====
section
/-! DEFINITION. The 8-bit A-ALU matrix and the 8-bit INC and DEC (`41_alu.md` R105 to R115). -/

namespace Sys2Proof.Machine

/-- The ALU operation field (`30_encoding.md` R62). -/
inductive AluOp where
  | add | adc | sub | sbc | and | xor | or | cp
  deriving DecidableEq, Repr

/-- The result and flags of each operation (`41_alu.md` R106 to R113). For CP the result is the discarded difference. -/
def AluOp.result (op : AluOp) (a v : Byte) (carry : Bool) : AluResult :=
  match op with
  | .add => addCarry a v false
  | .adc => addCarry a v carry
  | .sub => subBorrow a v false
  | .sbc => subBorrow a v carry
  | .and => logicResult (a &&& v) true
  | .xor => logicResult (a ^^^ v) false
  | .or => logicResult (a ||| v) false
  | .cp => subBorrow a v false

/-- Every operation but CP writes A (`41_alu.md` R113). -/
def AluOp.writesA : AluOp → Bool
  | .cp => false
  | _ => true

/-- An A-ALU operation: `src` read once, A and all four flags written (`41_alu.md` R105). -/
def alu (op : AluOp) (src : AluSource) (s : State) : Result :=
  let r := op.result s.a (s.source src) (s.flag .c)
  let t := if op.writesA then s.setReg8 .a r.value else s
  .next ((t.setFlags r.z r.n r.h r.c).addCycles src.cost)

/-- INC on a register or (HL): C unchanged (`41_alu.md` R114). -/
def incByte (x : Operand8) (s : State) : Result :=
  let v := s.read8 x
  .next (((s.write8 x (v + 1#8)).setZnh (v + 1#8 == 0#8) false (incHalf v)).addCycles (x.cost 4 12))

/-- DEC on a register or (HL): C unchanged (`41_alu.md` R115). -/
def decByte (x : Operand8) (s : State) : Result :=
  let v := s.read8 x
  .next (((s.write8 x (v - 1#8)).setZnh (v - 1#8 == 0#8) true (decHalf v)).addCycles (x.cost 4 12))

/-- `INC B` (R114). -/
def exec_inc_b (s : State) : Result := incByte (.reg .b) s

/-- `DEC B` (R115). -/
def exec_dec_b (s : State) : Result := decByte (.reg .b) s

/-- `INC C` (R114). -/
def exec_inc_c (s : State) : Result := incByte (.reg .c) s

/-- `DEC C` (R115). -/
def exec_dec_c (s : State) : Result := decByte (.reg .c) s

/-- `INC D` (R114). -/
def exec_inc_d (s : State) : Result := incByte (.reg .d) s

/-- `DEC D` (R115). -/
def exec_dec_d (s : State) : Result := decByte (.reg .d) s

/-- `INC E` (R114). -/
def exec_inc_e (s : State) : Result := incByte (.reg .e) s

/-- `DEC E` (R115). -/
def exec_dec_e (s : State) : Result := decByte (.reg .e) s

/-- `INC H` (R114). -/
def exec_inc_h (s : State) : Result := incByte (.reg .h) s

/-- `DEC H` (R115). -/
def exec_dec_h (s : State) : Result := decByte (.reg .h) s

/-- `INC L` (R114). -/
def exec_inc_l (s : State) : Result := incByte (.reg .l) s

/-- `DEC L` (R115). -/
def exec_dec_l (s : State) : Result := decByte (.reg .l) s

/-- `INC (HL)` (R114). -/
def exec_inc_hlInd (s : State) : Result := incByte .atHl s

/-- `DEC (HL)` (R115). -/
def exec_dec_hlInd (s : State) : Result := decByte .atHl s

/-- `INC A` (R114). -/
def exec_inc_a (s : State) : Result := incByte (.reg .a) s

/-- `DEC A` (R115). -/
def exec_dec_a (s : State) : Result := decByte (.reg .a) s

/-- `ADD A,B` (R106). -/
def exec_add_a_b (s : State) : Result := alu .add (.operand (.reg .b)) s

/-- `ADD A,C` (R106). -/
def exec_add_a_c (s : State) : Result := alu .add (.operand (.reg .c)) s

/-- `ADD A,D` (R106). -/
def exec_add_a_d (s : State) : Result := alu .add (.operand (.reg .d)) s

/-- `ADD A,E` (R106). -/
def exec_add_a_e (s : State) : Result := alu .add (.operand (.reg .e)) s

/-- `ADD A,H` (R106). -/
def exec_add_a_h (s : State) : Result := alu .add (.operand (.reg .h)) s

/-- `ADD A,L` (R106). -/
def exec_add_a_l (s : State) : Result := alu .add (.operand (.reg .l)) s

/-- `ADD A,(HL)` (R106). -/
def exec_add_a_hlInd (s : State) : Result := alu .add (.operand .atHl) s

/-- `ADD A,A` (R106). -/
def exec_add_a_a (s : State) : Result := alu .add (.operand (.reg .a)) s

/-- `ADC A,B` (R107). -/
def exec_adc_a_b (s : State) : Result := alu .adc (.operand (.reg .b)) s

/-- `ADC A,C` (R107). -/
def exec_adc_a_c (s : State) : Result := alu .adc (.operand (.reg .c)) s

/-- `ADC A,D` (R107). -/
def exec_adc_a_d (s : State) : Result := alu .adc (.operand (.reg .d)) s

/-- `ADC A,E` (R107). -/
def exec_adc_a_e (s : State) : Result := alu .adc (.operand (.reg .e)) s

/-- `ADC A,H` (R107). -/
def exec_adc_a_h (s : State) : Result := alu .adc (.operand (.reg .h)) s

/-- `ADC A,L` (R107). -/
def exec_adc_a_l (s : State) : Result := alu .adc (.operand (.reg .l)) s

/-- `ADC A,(HL)` (R107). -/
def exec_adc_a_hlInd (s : State) : Result := alu .adc (.operand .atHl) s

/-- `ADC A,A` (R107). -/
def exec_adc_a_a (s : State) : Result := alu .adc (.operand (.reg .a)) s

/-- `SUB B` (R108). -/
def exec_sub_b (s : State) : Result := alu .sub (.operand (.reg .b)) s

/-- `SUB C` (R108). -/
def exec_sub_c (s : State) : Result := alu .sub (.operand (.reg .c)) s

/-- `SUB D` (R108). -/
def exec_sub_d (s : State) : Result := alu .sub (.operand (.reg .d)) s

/-- `SUB E` (R108). -/
def exec_sub_e (s : State) : Result := alu .sub (.operand (.reg .e)) s

/-- `SUB H` (R108). -/
def exec_sub_h (s : State) : Result := alu .sub (.operand (.reg .h)) s

/-- `SUB L` (R108). -/
def exec_sub_l (s : State) : Result := alu .sub (.operand (.reg .l)) s

/-- `SUB (HL)` (R108). -/
def exec_sub_hlInd (s : State) : Result := alu .sub (.operand .atHl) s

/-- `SUB A` (R108). -/
def exec_sub_a (s : State) : Result := alu .sub (.operand (.reg .a)) s

/-- `SBC A,B` (R109). -/
def exec_sbc_a_b (s : State) : Result := alu .sbc (.operand (.reg .b)) s

/-- `SBC A,C` (R109). -/
def exec_sbc_a_c (s : State) : Result := alu .sbc (.operand (.reg .c)) s

/-- `SBC A,D` (R109). -/
def exec_sbc_a_d (s : State) : Result := alu .sbc (.operand (.reg .d)) s

/-- `SBC A,E` (R109). -/
def exec_sbc_a_e (s : State) : Result := alu .sbc (.operand (.reg .e)) s

/-- `SBC A,H` (R109). -/
def exec_sbc_a_h (s : State) : Result := alu .sbc (.operand (.reg .h)) s

/-- `SBC A,L` (R109). -/
def exec_sbc_a_l (s : State) : Result := alu .sbc (.operand (.reg .l)) s

/-- `SBC A,(HL)` (R109). -/
def exec_sbc_a_hlInd (s : State) : Result := alu .sbc (.operand .atHl) s

/-- `SBC A,A` (R109). -/
def exec_sbc_a_a (s : State) : Result := alu .sbc (.operand (.reg .a)) s

/-- `AND B` (R110). -/
def exec_and_b (s : State) : Result := alu .and (.operand (.reg .b)) s

/-- `AND C` (R110). -/
def exec_and_c (s : State) : Result := alu .and (.operand (.reg .c)) s

/-- `AND D` (R110). -/
def exec_and_d (s : State) : Result := alu .and (.operand (.reg .d)) s

/-- `AND E` (R110). -/
def exec_and_e (s : State) : Result := alu .and (.operand (.reg .e)) s

/-- `AND H` (R110). -/
def exec_and_h (s : State) : Result := alu .and (.operand (.reg .h)) s

/-- `AND L` (R110). -/
def exec_and_l (s : State) : Result := alu .and (.operand (.reg .l)) s

/-- `AND (HL)` (R110). -/
def exec_and_hlInd (s : State) : Result := alu .and (.operand .atHl) s

/-- `AND A` (R110). -/
def exec_and_a (s : State) : Result := alu .and (.operand (.reg .a)) s

/-- `XOR B` (R112). -/
def exec_xor_b (s : State) : Result := alu .xor (.operand (.reg .b)) s

/-- `XOR C` (R112). -/
def exec_xor_c (s : State) : Result := alu .xor (.operand (.reg .c)) s

/-- `XOR D` (R112). -/
def exec_xor_d (s : State) : Result := alu .xor (.operand (.reg .d)) s

/-- `XOR E` (R112). -/
def exec_xor_e (s : State) : Result := alu .xor (.operand (.reg .e)) s

/-- `XOR H` (R112). -/
def exec_xor_h (s : State) : Result := alu .xor (.operand (.reg .h)) s

/-- `XOR L` (R112). -/
def exec_xor_l (s : State) : Result := alu .xor (.operand (.reg .l)) s

/-- `XOR (HL)` (R112). -/
def exec_xor_hlInd (s : State) : Result := alu .xor (.operand .atHl) s

/-- `XOR A` (R112). -/
def exec_xor_a (s : State) : Result := alu .xor (.operand (.reg .a)) s

/-- `OR B` (R111). -/
def exec_or_b (s : State) : Result := alu .or (.operand (.reg .b)) s

/-- `OR C` (R111). -/
def exec_or_c (s : State) : Result := alu .or (.operand (.reg .c)) s

/-- `OR D` (R111). -/
def exec_or_d (s : State) : Result := alu .or (.operand (.reg .d)) s

/-- `OR E` (R111). -/
def exec_or_e (s : State) : Result := alu .or (.operand (.reg .e)) s

/-- `OR H` (R111). -/
def exec_or_h (s : State) : Result := alu .or (.operand (.reg .h)) s

/-- `OR L` (R111). -/
def exec_or_l (s : State) : Result := alu .or (.operand (.reg .l)) s

/-- `OR (HL)` (R111). -/
def exec_or_hlInd (s : State) : Result := alu .or (.operand .atHl) s

/-- `OR A` (R111). -/
def exec_or_a (s : State) : Result := alu .or (.operand (.reg .a)) s

/-- `CP B` (R113). -/
def exec_cp_b (s : State) : Result := alu .cp (.operand (.reg .b)) s

/-- `CP C` (R113). -/
def exec_cp_c (s : State) : Result := alu .cp (.operand (.reg .c)) s

/-- `CP D` (R113). -/
def exec_cp_d (s : State) : Result := alu .cp (.operand (.reg .d)) s

/-- `CP E` (R113). -/
def exec_cp_e (s : State) : Result := alu .cp (.operand (.reg .e)) s

/-- `CP H` (R113). -/
def exec_cp_h (s : State) : Result := alu .cp (.operand (.reg .h)) s

/-- `CP L` (R113). -/
def exec_cp_l (s : State) : Result := alu .cp (.operand (.reg .l)) s

/-- `CP (HL)` (R113). -/
def exec_cp_hlInd (s : State) : Result := alu .cp (.operand .atHl) s

/-- `CP A` (R113). -/
def exec_cp_a (s : State) : Result := alu .cp (.operand (.reg .a)) s

/-- `ADD A,n8` (R106). -/
def exec_add_a_n8 (n : Byte) (s : State) : Result := alu .add (.imm n) s

/-- `ADC A,n8` (R107). -/
def exec_adc_a_n8 (n : Byte) (s : State) : Result := alu .adc (.imm n) s

/-- `SUB n8` (R108). -/
def exec_sub_n8 (n : Byte) (s : State) : Result := alu .sub (.imm n) s

/-- `SBC A,n8` (R109). -/
def exec_sbc_a_n8 (n : Byte) (s : State) : Result := alu .sbc (.imm n) s

/-- `AND n8` (R110). -/
def exec_and_n8 (n : Byte) (s : State) : Result := alu .and (.imm n) s

/-- `XOR n8` (R112). -/
def exec_xor_n8 (n : Byte) (s : State) : Result := alu .xor (.imm n) s

/-- `OR n8` (R111). -/
def exec_or_n8 (n : Byte) (s : State) : Result := alu .or (.imm n) s

/-- `CP n8` (R113). -/
def exec_cp_n8 (n : Byte) (s : State) : Result := alu .cp (.imm n) s

end Sys2Proof.Machine
end

