-- ==== Sys2Proof/Machine/AluWord.lean ====
section
/-! DEFINITION. The 16-bit arithmetic (`41_alu.md` R116 to R119). -/

namespace Sys2Proof.Machine

/-- `R16[p] <- trunc16(R16[p] + 1)`, no flags (R116). -/
def incPair (p : Reg16) (s : State) : Result :=
  .next ((s.setReg16 p (s.reg16 p + 1#16)).addCycles 8)

/-- `R16[p] <- trunc16(R16[p] - 1)`, no flags (R117). -/
def decPair (p : Reg16) (s : State) : Result :=
  .next ((s.setReg16 p (s.reg16 p - 1#16)).addCycles 8)

/-- `HL <- trunc16(HL + R16[p])`, Z unchanged, N = 0 (R118). -/
def addHl (p : Reg16) (s : State) : Result :=
  let r := addWords s.hl (s.reg16 p)
  .next (((s.setHl r.value).setNhc false r.h r.c).addCycles 8)

/-- `SP <- sp_add(SP, e)`, Z and N forced 0 (R119). -/
def addSp (e : Byte) (s : State) : Result :=
  let r := spAdd s.sp e
  .next (((s.setReg16 .sp r.value).setFlags false false r.h r.c).addCycles 16)

/-- `INC BC` (R116). -/
def exec_inc_bc (s : State) : Result := incPair .bc s

/-- `ADD HL,BC` (R118). -/
def exec_add_hl_bc (s : State) : Result := addHl .bc s

/-- `DEC BC` (R117). -/
def exec_dec_bc (s : State) : Result := decPair .bc s

/-- `INC DE` (R116). -/
def exec_inc_de (s : State) : Result := incPair .de s

/-- `ADD HL,DE` (R118). -/
def exec_add_hl_de (s : State) : Result := addHl .de s

/-- `DEC DE` (R117). -/
def exec_dec_de (s : State) : Result := decPair .de s

/-- `INC HL` (R116). -/
def exec_inc_hl (s : State) : Result := incPair .hl s

/-- `ADD HL,HL` (R118). -/
def exec_add_hl_hl (s : State) : Result := addHl .hl s

/-- `DEC HL` (R117). -/
def exec_dec_hl (s : State) : Result := decPair .hl s

/-- `INC SP` (R116). -/
def exec_inc_sp (s : State) : Result := incPair .sp s

/-- `ADD HL,SP` (R118). -/
def exec_add_hl_sp (s : State) : Result := addHl .sp s

/-- `DEC SP` (R117). -/
def exec_dec_sp (s : State) : Result := decPair .sp s

/-- `ADD SP,e` (R119). -/
def exec_add_sp_e (e : Byte) (s : State) : Result := addSp e s

end Sys2Proof.Machine
end

