-- ==== Sys2Proof/Machine/CbBits.lean ====
section
/-! DEFINITION. BIT, SET and RES of the 0xCB table (`44_cb_prefix.md` R162 to R164). -/

namespace Sys2Proof.Machine

/-- `Z <- (v[b] == 0); N <- 0; H <- 1`, C unchanged, the operand not written (R162). -/
def testBit (b : Fin 8) (x : Operand8) (s : State) : Result :=
  .next ((s.setZnh (!(s.read8 x).getLsbD b) false true).addCycles (x.cost 8 12))

/-- `R8[z] <- v | (1 << b)`, no flags (R163). -/
def setBit (b : Fin 8) (x : Operand8) (s : State) : Result :=
  .next ((s.write8 x (s.read8 x ||| (1#8 <<< b.val))).addCycles (x.cost 8 16))

/-- `R8[z] <- v & ~(1 << b)`, no flags (R164). -/
def resetBit (b : Fin 8) (x : Operand8) (s : State) : Result :=
  .next ((s.write8 x (s.read8 x &&& ~~~(1#8 <<< b.val))).addCycles (x.cost 8 16))

/-- `BIT 0,B` (R162). -/
def exec_bit_0_b (s : State) : Result := testBit 0 (.reg .b) s

/-- `BIT 0,C` (R162). -/
def exec_bit_0_c (s : State) : Result := testBit 0 (.reg .c) s

/-- `BIT 0,D` (R162). -/
def exec_bit_0_d (s : State) : Result := testBit 0 (.reg .d) s

/-- `BIT 0,E` (R162). -/
def exec_bit_0_e (s : State) : Result := testBit 0 (.reg .e) s

/-- `BIT 0,H` (R162). -/
def exec_bit_0_h (s : State) : Result := testBit 0 (.reg .h) s

/-- `BIT 0,L` (R162). -/
def exec_bit_0_l (s : State) : Result := testBit 0 (.reg .l) s

/-- `BIT 0,(HL)` (R162). -/
def exec_bit_0_hlInd (s : State) : Result := testBit 0 .atHl s

/-- `BIT 0,A` (R162). -/
def exec_bit_0_a (s : State) : Result := testBit 0 (.reg .a) s

/-- `BIT 1,B` (R162). -/
def exec_bit_1_b (s : State) : Result := testBit 1 (.reg .b) s

/-- `BIT 1,C` (R162). -/
def exec_bit_1_c (s : State) : Result := testBit 1 (.reg .c) s

/-- `BIT 1,D` (R162). -/
def exec_bit_1_d (s : State) : Result := testBit 1 (.reg .d) s

/-- `BIT 1,E` (R162). -/
def exec_bit_1_e (s : State) : Result := testBit 1 (.reg .e) s

/-- `BIT 1,H` (R162). -/
def exec_bit_1_h (s : State) : Result := testBit 1 (.reg .h) s

/-- `BIT 1,L` (R162). -/
def exec_bit_1_l (s : State) : Result := testBit 1 (.reg .l) s

/-- `BIT 1,(HL)` (R162). -/
def exec_bit_1_hlInd (s : State) : Result := testBit 1 .atHl s

/-- `BIT 1,A` (R162). -/
def exec_bit_1_a (s : State) : Result := testBit 1 (.reg .a) s

/-- `BIT 2,B` (R162). -/
def exec_bit_2_b (s : State) : Result := testBit 2 (.reg .b) s

/-- `BIT 2,C` (R162). -/
def exec_bit_2_c (s : State) : Result := testBit 2 (.reg .c) s

/-- `BIT 2,D` (R162). -/
def exec_bit_2_d (s : State) : Result := testBit 2 (.reg .d) s

/-- `BIT 2,E` (R162). -/
def exec_bit_2_e (s : State) : Result := testBit 2 (.reg .e) s

/-- `BIT 2,H` (R162). -/
def exec_bit_2_h (s : State) : Result := testBit 2 (.reg .h) s

/-- `BIT 2,L` (R162). -/
def exec_bit_2_l (s : State) : Result := testBit 2 (.reg .l) s

/-- `BIT 2,(HL)` (R162). -/
def exec_bit_2_hlInd (s : State) : Result := testBit 2 .atHl s

/-- `BIT 2,A` (R162). -/
def exec_bit_2_a (s : State) : Result := testBit 2 (.reg .a) s

/-- `BIT 3,B` (R162). -/
def exec_bit_3_b (s : State) : Result := testBit 3 (.reg .b) s

/-- `BIT 3,C` (R162). -/
def exec_bit_3_c (s : State) : Result := testBit 3 (.reg .c) s

/-- `BIT 3,D` (R162). -/
def exec_bit_3_d (s : State) : Result := testBit 3 (.reg .d) s

/-- `BIT 3,E` (R162). -/
def exec_bit_3_e (s : State) : Result := testBit 3 (.reg .e) s

/-- `BIT 3,H` (R162). -/
def exec_bit_3_h (s : State) : Result := testBit 3 (.reg .h) s

/-- `BIT 3,L` (R162). -/
def exec_bit_3_l (s : State) : Result := testBit 3 (.reg .l) s

/-- `BIT 3,(HL)` (R162). -/
def exec_bit_3_hlInd (s : State) : Result := testBit 3 .atHl s

/-- `BIT 3,A` (R162). -/
def exec_bit_3_a (s : State) : Result := testBit 3 (.reg .a) s

/-- `BIT 4,B` (R162). -/
def exec_bit_4_b (s : State) : Result := testBit 4 (.reg .b) s

/-- `BIT 4,C` (R162). -/
def exec_bit_4_c (s : State) : Result := testBit 4 (.reg .c) s

/-- `BIT 4,D` (R162). -/
def exec_bit_4_d (s : State) : Result := testBit 4 (.reg .d) s

/-- `BIT 4,E` (R162). -/
def exec_bit_4_e (s : State) : Result := testBit 4 (.reg .e) s

/-- `BIT 4,H` (R162). -/
def exec_bit_4_h (s : State) : Result := testBit 4 (.reg .h) s

/-- `BIT 4,L` (R162). -/
def exec_bit_4_l (s : State) : Result := testBit 4 (.reg .l) s

/-- `BIT 4,(HL)` (R162). -/
def exec_bit_4_hlInd (s : State) : Result := testBit 4 .atHl s

/-- `BIT 4,A` (R162). -/
def exec_bit_4_a (s : State) : Result := testBit 4 (.reg .a) s

/-- `BIT 5,B` (R162). -/
def exec_bit_5_b (s : State) : Result := testBit 5 (.reg .b) s

/-- `BIT 5,C` (R162). -/
def exec_bit_5_c (s : State) : Result := testBit 5 (.reg .c) s

/-- `BIT 5,D` (R162). -/
def exec_bit_5_d (s : State) : Result := testBit 5 (.reg .d) s

/-- `BIT 5,E` (R162). -/
def exec_bit_5_e (s : State) : Result := testBit 5 (.reg .e) s

/-- `BIT 5,H` (R162). -/
def exec_bit_5_h (s : State) : Result := testBit 5 (.reg .h) s

/-- `BIT 5,L` (R162). -/
def exec_bit_5_l (s : State) : Result := testBit 5 (.reg .l) s

/-- `BIT 5,(HL)` (R162). -/
def exec_bit_5_hlInd (s : State) : Result := testBit 5 .atHl s

/-- `BIT 5,A` (R162). -/
def exec_bit_5_a (s : State) : Result := testBit 5 (.reg .a) s

/-- `BIT 6,B` (R162). -/
def exec_bit_6_b (s : State) : Result := testBit 6 (.reg .b) s

/-- `BIT 6,C` (R162). -/
def exec_bit_6_c (s : State) : Result := testBit 6 (.reg .c) s

/-- `BIT 6,D` (R162). -/
def exec_bit_6_d (s : State) : Result := testBit 6 (.reg .d) s

/-- `BIT 6,E` (R162). -/
def exec_bit_6_e (s : State) : Result := testBit 6 (.reg .e) s

/-- `BIT 6,H` (R162). -/
def exec_bit_6_h (s : State) : Result := testBit 6 (.reg .h) s

/-- `BIT 6,L` (R162). -/
def exec_bit_6_l (s : State) : Result := testBit 6 (.reg .l) s

/-- `BIT 6,(HL)` (R162). -/
def exec_bit_6_hlInd (s : State) : Result := testBit 6 .atHl s

/-- `BIT 6,A` (R162). -/
def exec_bit_6_a (s : State) : Result := testBit 6 (.reg .a) s

/-- `BIT 7,B` (R162). -/
def exec_bit_7_b (s : State) : Result := testBit 7 (.reg .b) s

/-- `BIT 7,C` (R162). -/
def exec_bit_7_c (s : State) : Result := testBit 7 (.reg .c) s

/-- `BIT 7,D` (R162). -/
def exec_bit_7_d (s : State) : Result := testBit 7 (.reg .d) s

/-- `BIT 7,E` (R162). -/
def exec_bit_7_e (s : State) : Result := testBit 7 (.reg .e) s

/-- `BIT 7,H` (R162). -/
def exec_bit_7_h (s : State) : Result := testBit 7 (.reg .h) s

/-- `BIT 7,L` (R162). -/
def exec_bit_7_l (s : State) : Result := testBit 7 (.reg .l) s

/-- `BIT 7,(HL)` (R162). -/
def exec_bit_7_hlInd (s : State) : Result := testBit 7 .atHl s

/-- `BIT 7,A` (R162). -/
def exec_bit_7_a (s : State) : Result := testBit 7 (.reg .a) s

/-- `RES 0,B` (R164). -/
def exec_res_0_b (s : State) : Result := resetBit 0 (.reg .b) s

/-- `RES 0,C` (R164). -/
def exec_res_0_c (s : State) : Result := resetBit 0 (.reg .c) s

/-- `RES 0,D` (R164). -/
def exec_res_0_d (s : State) : Result := resetBit 0 (.reg .d) s

/-- `RES 0,E` (R164). -/
def exec_res_0_e (s : State) : Result := resetBit 0 (.reg .e) s

/-- `RES 0,H` (R164). -/
def exec_res_0_h (s : State) : Result := resetBit 0 (.reg .h) s

/-- `RES 0,L` (R164). -/
def exec_res_0_l (s : State) : Result := resetBit 0 (.reg .l) s

/-- `RES 0,(HL)` (R164). -/
def exec_res_0_hlInd (s : State) : Result := resetBit 0 .atHl s

/-- `RES 0,A` (R164). -/
def exec_res_0_a (s : State) : Result := resetBit 0 (.reg .a) s

/-- `RES 1,B` (R164). -/
def exec_res_1_b (s : State) : Result := resetBit 1 (.reg .b) s

/-- `RES 1,C` (R164). -/
def exec_res_1_c (s : State) : Result := resetBit 1 (.reg .c) s

/-- `RES 1,D` (R164). -/
def exec_res_1_d (s : State) : Result := resetBit 1 (.reg .d) s

/-- `RES 1,E` (R164). -/
def exec_res_1_e (s : State) : Result := resetBit 1 (.reg .e) s

/-- `RES 1,H` (R164). -/
def exec_res_1_h (s : State) : Result := resetBit 1 (.reg .h) s

/-- `RES 1,L` (R164). -/
def exec_res_1_l (s : State) : Result := resetBit 1 (.reg .l) s

/-- `RES 1,(HL)` (R164). -/
def exec_res_1_hlInd (s : State) : Result := resetBit 1 .atHl s

/-- `RES 1,A` (R164). -/
def exec_res_1_a (s : State) : Result := resetBit 1 (.reg .a) s

/-- `RES 2,B` (R164). -/
def exec_res_2_b (s : State) : Result := resetBit 2 (.reg .b) s

/-- `RES 2,C` (R164). -/
def exec_res_2_c (s : State) : Result := resetBit 2 (.reg .c) s

/-- `RES 2,D` (R164). -/
def exec_res_2_d (s : State) : Result := resetBit 2 (.reg .d) s

/-- `RES 2,E` (R164). -/
def exec_res_2_e (s : State) : Result := resetBit 2 (.reg .e) s

/-- `RES 2,H` (R164). -/
def exec_res_2_h (s : State) : Result := resetBit 2 (.reg .h) s

/-- `RES 2,L` (R164). -/
def exec_res_2_l (s : State) : Result := resetBit 2 (.reg .l) s

/-- `RES 2,(HL)` (R164). -/
def exec_res_2_hlInd (s : State) : Result := resetBit 2 .atHl s

/-- `RES 2,A` (R164). -/
def exec_res_2_a (s : State) : Result := resetBit 2 (.reg .a) s

/-- `RES 3,B` (R164). -/
def exec_res_3_b (s : State) : Result := resetBit 3 (.reg .b) s

/-- `RES 3,C` (R164). -/
def exec_res_3_c (s : State) : Result := resetBit 3 (.reg .c) s

/-- `RES 3,D` (R164). -/
def exec_res_3_d (s : State) : Result := resetBit 3 (.reg .d) s

/-- `RES 3,E` (R164). -/
def exec_res_3_e (s : State) : Result := resetBit 3 (.reg .e) s

/-- `RES 3,H` (R164). -/
def exec_res_3_h (s : State) : Result := resetBit 3 (.reg .h) s

/-- `RES 3,L` (R164). -/
def exec_res_3_l (s : State) : Result := resetBit 3 (.reg .l) s

/-- `RES 3,(HL)` (R164). -/
def exec_res_3_hlInd (s : State) : Result := resetBit 3 .atHl s

/-- `RES 3,A` (R164). -/
def exec_res_3_a (s : State) : Result := resetBit 3 (.reg .a) s

/-- `RES 4,B` (R164). -/
def exec_res_4_b (s : State) : Result := resetBit 4 (.reg .b) s

/-- `RES 4,C` (R164). -/
def exec_res_4_c (s : State) : Result := resetBit 4 (.reg .c) s

/-- `RES 4,D` (R164). -/
def exec_res_4_d (s : State) : Result := resetBit 4 (.reg .d) s

/-- `RES 4,E` (R164). -/
def exec_res_4_e (s : State) : Result := resetBit 4 (.reg .e) s

/-- `RES 4,H` (R164). -/
def exec_res_4_h (s : State) : Result := resetBit 4 (.reg .h) s

/-- `RES 4,L` (R164). -/
def exec_res_4_l (s : State) : Result := resetBit 4 (.reg .l) s

/-- `RES 4,(HL)` (R164). -/
def exec_res_4_hlInd (s : State) : Result := resetBit 4 .atHl s

/-- `RES 4,A` (R164). -/
def exec_res_4_a (s : State) : Result := resetBit 4 (.reg .a) s

/-- `RES 5,B` (R164). -/
def exec_res_5_b (s : State) : Result := resetBit 5 (.reg .b) s

/-- `RES 5,C` (R164). -/
def exec_res_5_c (s : State) : Result := resetBit 5 (.reg .c) s

/-- `RES 5,D` (R164). -/
def exec_res_5_d (s : State) : Result := resetBit 5 (.reg .d) s

/-- `RES 5,E` (R164). -/
def exec_res_5_e (s : State) : Result := resetBit 5 (.reg .e) s

/-- `RES 5,H` (R164). -/
def exec_res_5_h (s : State) : Result := resetBit 5 (.reg .h) s

/-- `RES 5,L` (R164). -/
def exec_res_5_l (s : State) : Result := resetBit 5 (.reg .l) s

/-- `RES 5,(HL)` (R164). -/
def exec_res_5_hlInd (s : State) : Result := resetBit 5 .atHl s

/-- `RES 5,A` (R164). -/
def exec_res_5_a (s : State) : Result := resetBit 5 (.reg .a) s

/-- `RES 6,B` (R164). -/
def exec_res_6_b (s : State) : Result := resetBit 6 (.reg .b) s

/-- `RES 6,C` (R164). -/
def exec_res_6_c (s : State) : Result := resetBit 6 (.reg .c) s

/-- `RES 6,D` (R164). -/
def exec_res_6_d (s : State) : Result := resetBit 6 (.reg .d) s

/-- `RES 6,E` (R164). -/
def exec_res_6_e (s : State) : Result := resetBit 6 (.reg .e) s

/-- `RES 6,H` (R164). -/
def exec_res_6_h (s : State) : Result := resetBit 6 (.reg .h) s

/-- `RES 6,L` (R164). -/
def exec_res_6_l (s : State) : Result := resetBit 6 (.reg .l) s

/-- `RES 6,(HL)` (R164). -/
def exec_res_6_hlInd (s : State) : Result := resetBit 6 .atHl s

/-- `RES 6,A` (R164). -/
def exec_res_6_a (s : State) : Result := resetBit 6 (.reg .a) s

/-- `RES 7,B` (R164). -/
def exec_res_7_b (s : State) : Result := resetBit 7 (.reg .b) s

/-- `RES 7,C` (R164). -/
def exec_res_7_c (s : State) : Result := resetBit 7 (.reg .c) s

/-- `RES 7,D` (R164). -/
def exec_res_7_d (s : State) : Result := resetBit 7 (.reg .d) s

/-- `RES 7,E` (R164). -/
def exec_res_7_e (s : State) : Result := resetBit 7 (.reg .e) s

/-- `RES 7,H` (R164). -/
def exec_res_7_h (s : State) : Result := resetBit 7 (.reg .h) s

/-- `RES 7,L` (R164). -/
def exec_res_7_l (s : State) : Result := resetBit 7 (.reg .l) s

/-- `RES 7,(HL)` (R164). -/
def exec_res_7_hlInd (s : State) : Result := resetBit 7 .atHl s

/-- `RES 7,A` (R164). -/
def exec_res_7_a (s : State) : Result := resetBit 7 (.reg .a) s

/-- `SET 0,B` (R163). -/
def exec_set_0_b (s : State) : Result := setBit 0 (.reg .b) s

/-- `SET 0,C` (R163). -/
def exec_set_0_c (s : State) : Result := setBit 0 (.reg .c) s

/-- `SET 0,D` (R163). -/
def exec_set_0_d (s : State) : Result := setBit 0 (.reg .d) s

/-- `SET 0,E` (R163). -/
def exec_set_0_e (s : State) : Result := setBit 0 (.reg .e) s

/-- `SET 0,H` (R163). -/
def exec_set_0_h (s : State) : Result := setBit 0 (.reg .h) s

/-- `SET 0,L` (R163). -/
def exec_set_0_l (s : State) : Result := setBit 0 (.reg .l) s

/-- `SET 0,(HL)` (R163). -/
def exec_set_0_hlInd (s : State) : Result := setBit 0 .atHl s

/-- `SET 0,A` (R163). -/
def exec_set_0_a (s : State) : Result := setBit 0 (.reg .a) s

/-- `SET 1,B` (R163). -/
def exec_set_1_b (s : State) : Result := setBit 1 (.reg .b) s

/-- `SET 1,C` (R163). -/
def exec_set_1_c (s : State) : Result := setBit 1 (.reg .c) s

/-- `SET 1,D` (R163). -/
def exec_set_1_d (s : State) : Result := setBit 1 (.reg .d) s

/-- `SET 1,E` (R163). -/
def exec_set_1_e (s : State) : Result := setBit 1 (.reg .e) s

/-- `SET 1,H` (R163). -/
def exec_set_1_h (s : State) : Result := setBit 1 (.reg .h) s

/-- `SET 1,L` (R163). -/
def exec_set_1_l (s : State) : Result := setBit 1 (.reg .l) s

/-- `SET 1,(HL)` (R163). -/
def exec_set_1_hlInd (s : State) : Result := setBit 1 .atHl s

/-- `SET 1,A` (R163). -/
def exec_set_1_a (s : State) : Result := setBit 1 (.reg .a) s

/-- `SET 2,B` (R163). -/
def exec_set_2_b (s : State) : Result := setBit 2 (.reg .b) s

/-- `SET 2,C` (R163). -/
def exec_set_2_c (s : State) : Result := setBit 2 (.reg .c) s

/-- `SET 2,D` (R163). -/
def exec_set_2_d (s : State) : Result := setBit 2 (.reg .d) s

/-- `SET 2,E` (R163). -/
def exec_set_2_e (s : State) : Result := setBit 2 (.reg .e) s

/-- `SET 2,H` (R163). -/
def exec_set_2_h (s : State) : Result := setBit 2 (.reg .h) s

/-- `SET 2,L` (R163). -/
def exec_set_2_l (s : State) : Result := setBit 2 (.reg .l) s

/-- `SET 2,(HL)` (R163). -/
def exec_set_2_hlInd (s : State) : Result := setBit 2 .atHl s

/-- `SET 2,A` (R163). -/
def exec_set_2_a (s : State) : Result := setBit 2 (.reg .a) s

/-- `SET 3,B` (R163). -/
def exec_set_3_b (s : State) : Result := setBit 3 (.reg .b) s

/-- `SET 3,C` (R163). -/
def exec_set_3_c (s : State) : Result := setBit 3 (.reg .c) s

/-- `SET 3,D` (R163). -/
def exec_set_3_d (s : State) : Result := setBit 3 (.reg .d) s

/-- `SET 3,E` (R163). -/
def exec_set_3_e (s : State) : Result := setBit 3 (.reg .e) s

/-- `SET 3,H` (R163). -/
def exec_set_3_h (s : State) : Result := setBit 3 (.reg .h) s

/-- `SET 3,L` (R163). -/
def exec_set_3_l (s : State) : Result := setBit 3 (.reg .l) s

/-- `SET 3,(HL)` (R163). -/
def exec_set_3_hlInd (s : State) : Result := setBit 3 .atHl s

/-- `SET 3,A` (R163). -/
def exec_set_3_a (s : State) : Result := setBit 3 (.reg .a) s

/-- `SET 4,B` (R163). -/
def exec_set_4_b (s : State) : Result := setBit 4 (.reg .b) s

/-- `SET 4,C` (R163). -/
def exec_set_4_c (s : State) : Result := setBit 4 (.reg .c) s

/-- `SET 4,D` (R163). -/
def exec_set_4_d (s : State) : Result := setBit 4 (.reg .d) s

/-- `SET 4,E` (R163). -/
def exec_set_4_e (s : State) : Result := setBit 4 (.reg .e) s

/-- `SET 4,H` (R163). -/
def exec_set_4_h (s : State) : Result := setBit 4 (.reg .h) s

/-- `SET 4,L` (R163). -/
def exec_set_4_l (s : State) : Result := setBit 4 (.reg .l) s

/-- `SET 4,(HL)` (R163). -/
def exec_set_4_hlInd (s : State) : Result := setBit 4 .atHl s

/-- `SET 4,A` (R163). -/
def exec_set_4_a (s : State) : Result := setBit 4 (.reg .a) s

/-- `SET 5,B` (R163). -/
def exec_set_5_b (s : State) : Result := setBit 5 (.reg .b) s

/-- `SET 5,C` (R163). -/
def exec_set_5_c (s : State) : Result := setBit 5 (.reg .c) s

/-- `SET 5,D` (R163). -/
def exec_set_5_d (s : State) : Result := setBit 5 (.reg .d) s

/-- `SET 5,E` (R163). -/
def exec_set_5_e (s : State) : Result := setBit 5 (.reg .e) s

/-- `SET 5,H` (R163). -/
def exec_set_5_h (s : State) : Result := setBit 5 (.reg .h) s

/-- `SET 5,L` (R163). -/
def exec_set_5_l (s : State) : Result := setBit 5 (.reg .l) s

/-- `SET 5,(HL)` (R163). -/
def exec_set_5_hlInd (s : State) : Result := setBit 5 .atHl s

/-- `SET 5,A` (R163). -/
def exec_set_5_a (s : State) : Result := setBit 5 (.reg .a) s

/-- `SET 6,B` (R163). -/
def exec_set_6_b (s : State) : Result := setBit 6 (.reg .b) s

/-- `SET 6,C` (R163). -/
def exec_set_6_c (s : State) : Result := setBit 6 (.reg .c) s

/-- `SET 6,D` (R163). -/
def exec_set_6_d (s : State) : Result := setBit 6 (.reg .d) s

/-- `SET 6,E` (R163). -/
def exec_set_6_e (s : State) : Result := setBit 6 (.reg .e) s

/-- `SET 6,H` (R163). -/
def exec_set_6_h (s : State) : Result := setBit 6 (.reg .h) s

/-- `SET 6,L` (R163). -/
def exec_set_6_l (s : State) : Result := setBit 6 (.reg .l) s

/-- `SET 6,(HL)` (R163). -/
def exec_set_6_hlInd (s : State) : Result := setBit 6 .atHl s

/-- `SET 6,A` (R163). -/
def exec_set_6_a (s : State) : Result := setBit 6 (.reg .a) s

/-- `SET 7,B` (R163). -/
def exec_set_7_b (s : State) : Result := setBit 7 (.reg .b) s

/-- `SET 7,C` (R163). -/
def exec_set_7_c (s : State) : Result := setBit 7 (.reg .c) s

/-- `SET 7,D` (R163). -/
def exec_set_7_d (s : State) : Result := setBit 7 (.reg .d) s

/-- `SET 7,E` (R163). -/
def exec_set_7_e (s : State) : Result := setBit 7 (.reg .e) s

/-- `SET 7,H` (R163). -/
def exec_set_7_h (s : State) : Result := setBit 7 (.reg .h) s

/-- `SET 7,L` (R163). -/
def exec_set_7_l (s : State) : Result := setBit 7 (.reg .l) s

/-- `SET 7,(HL)` (R163). -/
def exec_set_7_hlInd (s : State) : Result := setBit 7 .atHl s

/-- `SET 7,A` (R163). -/
def exec_set_7_a (s : State) : Result := setBit 7 (.reg .a) s

end Sys2Proof.Machine
end

