-- ==== Sys2Proof/Machine/Rotates.lean ====
section
/-! DEFINITION. The rotate and shift operations shared by the accumulator forms (`43_misc.md` R138 to R141) and the 0xCB table
(`44_cb_prefix.md` R154 to R161). -/

namespace Sys2Proof.Machine

/-- The CB operation field (`30_encoding.md` R62). -/
inductive RotateOp where
  | rlc | rrc | rl | rr | sla | sra | swap | srl
  deriving DecidableEq, Repr

/-- The result and the carry out of each operation; `carry` is the old carry flag (`44_cb_prefix.md` R154 to R161). -/
def RotateOp.result (op : RotateOp) (v : Byte) (carry : Bool) : ShiftResult :=
  match op with
  | .rlc => shiftLeft v (v.getLsbD 7)
  | .rrc => shiftRight v (v.getLsbD 0)
  | .rl => shiftLeft v carry
  | .rr => shiftRight v carry
  | .sla => shiftLeft v false
  | .sra => shiftRight v (v.getLsbD 7)
  | .swap => swapNibbles v
  | .srl => shiftRight v false

end Sys2Proof.Machine
end

