-- ==== Sys2Proof/Machine/CbRotates.lean ====
section
/-! DEFINITION. The rotates, shifts and SWAP of the 0xCB table (`44_cb_prefix.md` R153 to R161). -/

namespace Sys2Proof.Machine

/-- A read-modify-write on the operand: Z from the result, N = H = 0, C as the operation says; 8 cycles on a register, 16 on
(HL) (R153). -/
def rotate (op : RotateOp) (x : Operand8) (s : State) : Result :=
  let r := op.result (s.read8 x) (s.flag .c)
  .next (((s.write8 x r.value).setFlags (r.value == 0#8) false false r.carry).addCycles (x.cost 8 16))

/-- `RLC B` (R154). -/
def exec_rlc_b (s : State) : Result := rotate .rlc (.reg .b) s

/-- `RLC C` (R154). -/
def exec_rlc_c (s : State) : Result := rotate .rlc (.reg .c) s

/-- `RLC D` (R154). -/
def exec_rlc_d (s : State) : Result := rotate .rlc (.reg .d) s

/-- `RLC E` (R154). -/
def exec_rlc_e (s : State) : Result := rotate .rlc (.reg .e) s

/-- `RLC H` (R154). -/
def exec_rlc_h (s : State) : Result := rotate .rlc (.reg .h) s

/-- `RLC L` (R154). -/
def exec_rlc_l (s : State) : Result := rotate .rlc (.reg .l) s

/-- `RLC (HL)` (R154). -/
def exec_rlc_hlInd (s : State) : Result := rotate .rlc .atHl s

/-- `RLC A` (R154). -/
def exec_rlc_a (s : State) : Result := rotate .rlc (.reg .a) s

/-- `RRC B` (R155). -/
def exec_rrc_b (s : State) : Result := rotate .rrc (.reg .b) s

/-- `RRC C` (R155). -/
def exec_rrc_c (s : State) : Result := rotate .rrc (.reg .c) s

/-- `RRC D` (R155). -/
def exec_rrc_d (s : State) : Result := rotate .rrc (.reg .d) s

/-- `RRC E` (R155). -/
def exec_rrc_e (s : State) : Result := rotate .rrc (.reg .e) s

/-- `RRC H` (R155). -/
def exec_rrc_h (s : State) : Result := rotate .rrc (.reg .h) s

/-- `RRC L` (R155). -/
def exec_rrc_l (s : State) : Result := rotate .rrc (.reg .l) s

/-- `RRC (HL)` (R155). -/
def exec_rrc_hlInd (s : State) : Result := rotate .rrc .atHl s

/-- `RRC A` (R155). -/
def exec_rrc_a (s : State) : Result := rotate .rrc (.reg .a) s

/-- `RL B` (R156). -/
def exec_rl_b (s : State) : Result := rotate .rl (.reg .b) s

/-- `RL C` (R156). -/
def exec_rl_c (s : State) : Result := rotate .rl (.reg .c) s

/-- `RL D` (R156). -/
def exec_rl_d (s : State) : Result := rotate .rl (.reg .d) s

/-- `RL E` (R156). -/
def exec_rl_e (s : State) : Result := rotate .rl (.reg .e) s

/-- `RL H` (R156). -/
def exec_rl_h (s : State) : Result := rotate .rl (.reg .h) s

/-- `RL L` (R156). -/
def exec_rl_l (s : State) : Result := rotate .rl (.reg .l) s

/-- `RL (HL)` (R156). -/
def exec_rl_hlInd (s : State) : Result := rotate .rl .atHl s

/-- `RL A` (R156). -/
def exec_rl_a (s : State) : Result := rotate .rl (.reg .a) s

/-- `RR B` (R157). -/
def exec_rr_b (s : State) : Result := rotate .rr (.reg .b) s

/-- `RR C` (R157). -/
def exec_rr_c (s : State) : Result := rotate .rr (.reg .c) s

/-- `RR D` (R157). -/
def exec_rr_d (s : State) : Result := rotate .rr (.reg .d) s

/-- `RR E` (R157). -/
def exec_rr_e (s : State) : Result := rotate .rr (.reg .e) s

/-- `RR H` (R157). -/
def exec_rr_h (s : State) : Result := rotate .rr (.reg .h) s

/-- `RR L` (R157). -/
def exec_rr_l (s : State) : Result := rotate .rr (.reg .l) s

/-- `RR (HL)` (R157). -/
def exec_rr_hlInd (s : State) : Result := rotate .rr .atHl s

/-- `RR A` (R157). -/
def exec_rr_a (s : State) : Result := rotate .rr (.reg .a) s

/-- `SLA B` (R158). -/
def exec_sla_b (s : State) : Result := rotate .sla (.reg .b) s

/-- `SLA C` (R158). -/
def exec_sla_c (s : State) : Result := rotate .sla (.reg .c) s

/-- `SLA D` (R158). -/
def exec_sla_d (s : State) : Result := rotate .sla (.reg .d) s

/-- `SLA E` (R158). -/
def exec_sla_e (s : State) : Result := rotate .sla (.reg .e) s

/-- `SLA H` (R158). -/
def exec_sla_h (s : State) : Result := rotate .sla (.reg .h) s

/-- `SLA L` (R158). -/
def exec_sla_l (s : State) : Result := rotate .sla (.reg .l) s

/-- `SLA (HL)` (R158). -/
def exec_sla_hlInd (s : State) : Result := rotate .sla .atHl s

/-- `SLA A` (R158). -/
def exec_sla_a (s : State) : Result := rotate .sla (.reg .a) s

/-- `SRA B` (R159). -/
def exec_sra_b (s : State) : Result := rotate .sra (.reg .b) s

/-- `SRA C` (R159). -/
def exec_sra_c (s : State) : Result := rotate .sra (.reg .c) s

/-- `SRA D` (R159). -/
def exec_sra_d (s : State) : Result := rotate .sra (.reg .d) s

/-- `SRA E` (R159). -/
def exec_sra_e (s : State) : Result := rotate .sra (.reg .e) s

/-- `SRA H` (R159). -/
def exec_sra_h (s : State) : Result := rotate .sra (.reg .h) s

/-- `SRA L` (R159). -/
def exec_sra_l (s : State) : Result := rotate .sra (.reg .l) s

/-- `SRA (HL)` (R159). -/
def exec_sra_hlInd (s : State) : Result := rotate .sra .atHl s

/-- `SRA A` (R159). -/
def exec_sra_a (s : State) : Result := rotate .sra (.reg .a) s

/-- `SWAP B` (R161). -/
def exec_swap_b (s : State) : Result := rotate .swap (.reg .b) s

/-- `SWAP C` (R161). -/
def exec_swap_c (s : State) : Result := rotate .swap (.reg .c) s

/-- `SWAP D` (R161). -/
def exec_swap_d (s : State) : Result := rotate .swap (.reg .d) s

/-- `SWAP E` (R161). -/
def exec_swap_e (s : State) : Result := rotate .swap (.reg .e) s

/-- `SWAP H` (R161). -/
def exec_swap_h (s : State) : Result := rotate .swap (.reg .h) s

/-- `SWAP L` (R161). -/
def exec_swap_l (s : State) : Result := rotate .swap (.reg .l) s

/-- `SWAP (HL)` (R161). -/
def exec_swap_hlInd (s : State) : Result := rotate .swap .atHl s

/-- `SWAP A` (R161). -/
def exec_swap_a (s : State) : Result := rotate .swap (.reg .a) s

/-- `SRL B` (R160). -/
def exec_srl_b (s : State) : Result := rotate .srl (.reg .b) s

/-- `SRL C` (R160). -/
def exec_srl_c (s : State) : Result := rotate .srl (.reg .c) s

/-- `SRL D` (R160). -/
def exec_srl_d (s : State) : Result := rotate .srl (.reg .d) s

/-- `SRL E` (R160). -/
def exec_srl_e (s : State) : Result := rotate .srl (.reg .e) s

/-- `SRL H` (R160). -/
def exec_srl_h (s : State) : Result := rotate .srl (.reg .h) s

/-- `SRL L` (R160). -/
def exec_srl_l (s : State) : Result := rotate .srl (.reg .l) s

/-- `SRL (HL)` (R160). -/
def exec_srl_hlInd (s : State) : Result := rotate .srl .atHl s

/-- `SRL A` (R160). -/
def exec_srl_a (s : State) : Result := rotate .srl (.reg .a) s

end Sys2Proof.Machine
end

