-- ==== Sys2Proof/Machine/Control.lean ====
section
/-! DEFINITION. The control transfers (`42_control.md` R126 to R137). `s.pc` is already the address of the next instruction in
sequence, all operand bytes consumed; no control transfer changes a flag. -/

namespace Sys2Proof.Machine

/-- `PC <- Pop16()` (R133). -/
def State.popPc (s : State) : State :=
  let (v, t) := s.pop16
  t.jump v

/-- `Push16(PC); PC <- target` (R131, R137). -/
def State.callTo (s : State) (target : Word) : State := (s.push16 s.pc).jump target

/-- `PC <- trunc16(PC + sext_16(e))` (R129). -/
def State.jumpBy (s : State) (e : Byte) : State := s.jump (s.pc + signExtend e)

/-- R126. -/
def jp (nn : Word) (s : State) : Result := .next ((s.jump nn).addCycles 16)

/-- R127: 16 taken, 12 not taken. -/
def jpIf (cc : Cond) (nn : Word) (s : State) : Result :=
  .next (if s.cond cc then (s.jump nn).addCycles 16 else s.addCycles 12)

/-- R128: the target is the value of HL; memory is not read. -/
def jpHl (s : State) : Result := .next ((s.jump s.hl).addCycles 4)

/-- R129. -/
def jr (e : Byte) (s : State) : Result := .next ((s.jumpBy e).addCycles 12)

/-- R130: 12 taken, 8 not taken. -/
def jrIf (cc : Cond) (e : Byte) (s : State) : Result :=
  .next (if s.cond cc then (s.jumpBy e).addCycles 12 else s.addCycles 8)

/-- R131: the pushed return address is the PC after the operands. -/
def call (nn : Word) (s : State) : Result := .next ((s.callTo nn).addCycles 24)

/-- R132: 24 taken, 12 not taken; not taken, nothing is pushed. -/
def callIf (cc : Cond) (nn : Word) (s : State) : Result :=
  .next (if s.cond cc then (s.callTo nn).addCycles 24 else s.addCycles 12)

/-- R133. -/
def ret (s : State) : Result := .next (s.popPc.addCycles 16)

/-- R134: 20 taken, 8 not taken; not taken, SP is not touched. -/
def retIf (cc : Cond) (s : State) : Result :=
  .next (if s.cond cc then s.popPc.addCycles 20 else s.addCycles 8)

/-- R135: a return that also sets IME; there is no handler state to restore (`60_exceptions.md` R174). -/
def reti (s : State) : Result := .next (({ s.popPc with ime := true }).addCycles 16)

/-- R137. -/
def rst (target : Word) (s : State) : Result := .next ((s.callTo target).addCycles 16)

/-- `JR e` (R129). -/
def exec_jr_e (e : Byte) (s : State) : Result := jr e s

/-- `JR NZ,e` (R130). -/
def exec_jr_nz_e (e : Byte) (s : State) : Result := jrIf .nz e s

/-- `JR Z,e` (R130). -/
def exec_jr_z_e (e : Byte) (s : State) : Result := jrIf .z e s

/-- `JR NC,e` (R130). -/
def exec_jr_nc_e (e : Byte) (s : State) : Result := jrIf .nc e s

/-- `JR C,e` (R130). -/
def exec_jr_c_e (e : Byte) (s : State) : Result := jrIf .c e s

/-- `RET NZ` (R134). -/
def exec_ret_nz (s : State) : Result := retIf .nz s

/-- `JP NZ,nn` (R127). -/
def exec_jp_nz_nn (nn : Word) (s : State) : Result := jpIf .nz nn s

/-- `JP nn` (R126). -/
def exec_jp_nn (nn : Word) (s : State) : Result := jp nn s

/-- `CALL NZ,nn` (R132). -/
def exec_call_nz_nn (nn : Word) (s : State) : Result := callIf .nz nn s

/-- `RST 00h` (R137). -/
def exec_rst_00h (s : State) : Result := rst 0x00#16 s

/-- `RET Z` (R134). -/
def exec_ret_z (s : State) : Result := retIf .z s

/-- `RET` (R133). -/
def exec_ret (s : State) : Result := ret s

/-- `JP Z,nn` (R127). -/
def exec_jp_z_nn (nn : Word) (s : State) : Result := jpIf .z nn s

/-- `CALL Z,nn` (R132). -/
def exec_call_z_nn (nn : Word) (s : State) : Result := callIf .z nn s

/-- `CALL nn` (R131). -/
def exec_call_nn (nn : Word) (s : State) : Result := call nn s

/-- `RST 08h` (R137). -/
def exec_rst_08h (s : State) : Result := rst 0x08#16 s

/-- `RET NC` (R134). -/
def exec_ret_nc (s : State) : Result := retIf .nc s

/-- `JP NC,nn` (R127). -/
def exec_jp_nc_nn (nn : Word) (s : State) : Result := jpIf .nc nn s

/-- `CALL NC,nn` (R132). -/
def exec_call_nc_nn (nn : Word) (s : State) : Result := callIf .nc nn s

/-- `RST 10h` (R137). -/
def exec_rst_10h (s : State) : Result := rst 0x10#16 s

/-- `RET C` (R134). -/
def exec_ret_c (s : State) : Result := retIf .c s

/-- `RETI` (R135). -/
def exec_reti (s : State) : Result := reti s

/-- `JP C,nn` (R127). -/
def exec_jp_c_nn (nn : Word) (s : State) : Result := jpIf .c nn s

/-- `CALL C,nn` (R132). -/
def exec_call_c_nn (nn : Word) (s : State) : Result := callIf .c nn s

/-- `RST 18h` (R137). -/
def exec_rst_18h (s : State) : Result := rst 0x18#16 s

/-- `RST 20h` (R137). -/
def exec_rst_20h (s : State) : Result := rst 0x20#16 s

/-- `JP HL` (R128). -/
def exec_jp_hl (s : State) : Result := jpHl s

/-- `RST 28h` (R137). -/
def exec_rst_28h (s : State) : Result := rst 0x28#16 s

/-- `RST 30h` (R137). -/
def exec_rst_30h (s : State) : Result := rst 0x30#16 s

/-- `RST 38h` (R137). -/
def exec_rst_38h (s : State) : Result := rst 0x38#16 s

end Sys2Proof.Machine
end

