-- ==== Sys2Proof/Machine/LoadByte.lean ====
section
/-! DEFINITION. The 8-bit loads and stores (`40_loads.md` R76 to R94). No load writes a flag or raises an exception. `s` is the
state after the instruction's bytes have been fetched (`00_scope.md` R13). -/

namespace Sys2Proof.Machine

/-- `R8[y] <- R8[z]` (R76). -/
def ldRegReg (dst src : Reg8) (s : State) : Result :=
  .next ((s.setReg8 dst (s.reg8 src)).addCycles 4)

/-- `R8[y] <- n8` (R77). -/
def ldRegImm (dst : Reg8) (n : Byte) (s : State) : Result :=
  .next ((s.setReg8 dst n).addCycles 8)

/-- `R8[y] <- MemRead(HL, 1)`, read with the old HL (R78). -/
def ldRegHl (dst : Reg8) (s : State) : Result :=
  .next ((s.setReg8 dst (s.readByte s.hl)).addCycles 8)

/-- `MemWrite(HL, 1, R8[z])`: memory, not the HL register (R79, `90_conflicts.md` C6). -/
def ldHlReg (src : Reg8) (s : State) : Result :=
  .next ((s.writeByte s.hl (s.reg8 src)).addCycles 8)

/-- `MemWrite(HL, 1, n8)` (R80). -/
def ldHlImm (n : Byte) (s : State) : Result :=
  .next ((s.writeByte s.hl n).addCycles 12)

/-- `A <- MemRead(a, 1)` at a cost (R81, R82, R85, R91, R93). -/
def loadA (a : Word) (cost : Nat) (s : State) : Result :=
  .next ((s.setReg8 .a (s.readByte a)).addCycles cost)

/-- `MemWrite(a, 1, A)` at a cost (R83, R84, R90, R92, R94). -/
def storeA (a : Word) (cost : Nat) (s : State) : Result :=
  .next ((s.writeByte a s.a).addCycles cost)

/-- `a <- hli()` or `hld()`, then `A <- MemRead(a, 1)` (R88, R89). -/
def loadAStepping (stepped : Word × State) : Result :=
  loadA stepped.1 8 stepped.2

/-- `a <- hli()` or `hld()`, then `MemWrite(a, 1, A)` (R86, R87). -/
def storeAStepping (stepped : Word × State) : Result :=
  storeA stepped.1 8 stepped.2

/-- `LD (BC),A` (R83). -/
def exec_ld_bcInd_a (s : State) : Result := storeA s.bc 8 s

/-- `LD B,n8` (R77). -/
def exec_ld_b_n8 (n : Byte) (s : State) : Result := ldRegImm .b n s

/-- `LD A,(BC)` (R81). -/
def exec_ld_a_bcInd (s : State) : Result := loadA s.bc 8 s

/-- `LD C,n8` (R77). -/
def exec_ld_c_n8 (n : Byte) (s : State) : Result := ldRegImm .c n s

/-- `LD (DE),A` (R84). -/
def exec_ld_deInd_a (s : State) : Result := storeA s.de 8 s

/-- `LD D,n8` (R77). -/
def exec_ld_d_n8 (n : Byte) (s : State) : Result := ldRegImm .d n s

/-- `LD A,(DE)` (R82). -/
def exec_ld_a_deInd (s : State) : Result := loadA s.de 8 s

/-- `LD E,n8` (R77). -/
def exec_ld_e_n8 (n : Byte) (s : State) : Result := ldRegImm .e n s

/-- `LD (HL+),A` (R86). -/
def exec_ld_hlInc_a (s : State) : Result := storeAStepping s.hli

/-- `LD H,n8` (R77). -/
def exec_ld_h_n8 (n : Byte) (s : State) : Result := ldRegImm .h n s

/-- `LD A,(HL+)` (R88). -/
def exec_ld_a_hlInc (s : State) : Result := loadAStepping s.hli

/-- `LD L,n8` (R77). -/
def exec_ld_l_n8 (n : Byte) (s : State) : Result := ldRegImm .l n s

/-- `LD (HL-),A` (R87). -/
def exec_ld_hlDec_a (s : State) : Result := storeAStepping s.hld

/-- `LD (HL),n8` (R80). -/
def exec_ld_hlInd_n8 (n : Byte) (s : State) : Result := ldHlImm n s

/-- `LD A,(HL-)` (R89). -/
def exec_ld_a_hlDec (s : State) : Result := loadAStepping s.hld

/-- `LD A,n8` (R77). -/
def exec_ld_a_n8 (n : Byte) (s : State) : Result := ldRegImm .a n s

/-- `LD B,B` (R76). -/
def exec_ld_b_b (s : State) : Result := ldRegReg .b .b s

/-- `LD B,C` (R76). -/
def exec_ld_b_c (s : State) : Result := ldRegReg .b .c s

/-- `LD B,D` (R76). -/
def exec_ld_b_d (s : State) : Result := ldRegReg .b .d s

/-- `LD B,E` (R76). -/
def exec_ld_b_e (s : State) : Result := ldRegReg .b .e s

/-- `LD B,H` (R76). -/
def exec_ld_b_h (s : State) : Result := ldRegReg .b .h s

/-- `LD B,L` (R76). -/
def exec_ld_b_l (s : State) : Result := ldRegReg .b .l s

/-- `LD B,(HL)` (R78). -/
def exec_ld_b_hlInd (s : State) : Result := ldRegHl .b s

/-- `LD B,A` (R76). -/
def exec_ld_b_a (s : State) : Result := ldRegReg .b .a s

/-- `LD C,B` (R76). -/
def exec_ld_c_b (s : State) : Result := ldRegReg .c .b s

/-- `LD C,C` (R76). -/
def exec_ld_c_c (s : State) : Result := ldRegReg .c .c s

/-- `LD C,D` (R76). -/
def exec_ld_c_d (s : State) : Result := ldRegReg .c .d s

/-- `LD C,E` (R76). -/
def exec_ld_c_e (s : State) : Result := ldRegReg .c .e s

/-- `LD C,H` (R76). -/
def exec_ld_c_h (s : State) : Result := ldRegReg .c .h s

/-- `LD C,L` (R76). -/
def exec_ld_c_l (s : State) : Result := ldRegReg .c .l s

/-- `LD C,(HL)` (R78). -/
def exec_ld_c_hlInd (s : State) : Result := ldRegHl .c s

/-- `LD C,A` (R76). -/
def exec_ld_c_a (s : State) : Result := ldRegReg .c .a s

/-- `LD D,B` (R76). -/
def exec_ld_d_b (s : State) : Result := ldRegReg .d .b s

/-- `LD D,C` (R76). -/
def exec_ld_d_c (s : State) : Result := ldRegReg .d .c s

/-- `LD D,D` (R76). -/
def exec_ld_d_d (s : State) : Result := ldRegReg .d .d s

/-- `LD D,E` (R76). -/
def exec_ld_d_e (s : State) : Result := ldRegReg .d .e s

/-- `LD D,H` (R76). -/
def exec_ld_d_h (s : State) : Result := ldRegReg .d .h s

/-- `LD D,L` (R76). -/
def exec_ld_d_l (s : State) : Result := ldRegReg .d .l s

/-- `LD D,(HL)` (R78). -/
def exec_ld_d_hlInd (s : State) : Result := ldRegHl .d s

/-- `LD D,A` (R76). -/
def exec_ld_d_a (s : State) : Result := ldRegReg .d .a s

/-- `LD E,B` (R76). -/
def exec_ld_e_b (s : State) : Result := ldRegReg .e .b s

/-- `LD E,C` (R76). -/
def exec_ld_e_c (s : State) : Result := ldRegReg .e .c s

/-- `LD E,D` (R76). -/
def exec_ld_e_d (s : State) : Result := ldRegReg .e .d s

/-- `LD E,E` (R76). -/
def exec_ld_e_e (s : State) : Result := ldRegReg .e .e s

/-- `LD E,H` (R76). -/
def exec_ld_e_h (s : State) : Result := ldRegReg .e .h s

/-- `LD E,L` (R76). -/
def exec_ld_e_l (s : State) : Result := ldRegReg .e .l s

/-- `LD E,(HL)` (R78). -/
def exec_ld_e_hlInd (s : State) : Result := ldRegHl .e s

/-- `LD E,A` (R76). -/
def exec_ld_e_a (s : State) : Result := ldRegReg .e .a s

/-- `LD H,B` (R76). -/
def exec_ld_h_b (s : State) : Result := ldRegReg .h .b s

/-- `LD H,C` (R76). -/
def exec_ld_h_c (s : State) : Result := ldRegReg .h .c s

/-- `LD H,D` (R76). -/
def exec_ld_h_d (s : State) : Result := ldRegReg .h .d s

/-- `LD H,E` (R76). -/
def exec_ld_h_e (s : State) : Result := ldRegReg .h .e s

/-- `LD H,H` (R76). -/
def exec_ld_h_h (s : State) : Result := ldRegReg .h .h s

/-- `LD H,L` (R76). -/
def exec_ld_h_l (s : State) : Result := ldRegReg .h .l s

/-- `LD H,(HL)` (R78). -/
def exec_ld_h_hlInd (s : State) : Result := ldRegHl .h s

/-- `LD H,A` (R76). -/
def exec_ld_h_a (s : State) : Result := ldRegReg .h .a s

/-- `LD L,B` (R76). -/
def exec_ld_l_b (s : State) : Result := ldRegReg .l .b s

/-- `LD L,C` (R76). -/
def exec_ld_l_c (s : State) : Result := ldRegReg .l .c s

/-- `LD L,D` (R76). -/
def exec_ld_l_d (s : State) : Result := ldRegReg .l .d s

/-- `LD L,E` (R76). -/
def exec_ld_l_e (s : State) : Result := ldRegReg .l .e s

/-- `LD L,H` (R76). -/
def exec_ld_l_h (s : State) : Result := ldRegReg .l .h s

/-- `LD L,L` (R76). -/
def exec_ld_l_l (s : State) : Result := ldRegReg .l .l s

/-- `LD L,(HL)` (R78). -/
def exec_ld_l_hlInd (s : State) : Result := ldRegHl .l s

/-- `LD L,A` (R76). -/
def exec_ld_l_a (s : State) : Result := ldRegReg .l .a s

/-- `LD (HL),B` (R79). -/
def exec_ld_hlInd_b (s : State) : Result := ldHlReg .b s

/-- `LD (HL),C` (R79). -/
def exec_ld_hlInd_c (s : State) : Result := ldHlReg .c s

/-- `LD (HL),D` (R79). -/
def exec_ld_hlInd_d (s : State) : Result := ldHlReg .d s

/-- `LD (HL),E` (R79). -/
def exec_ld_hlInd_e (s : State) : Result := ldHlReg .e s

/-- `LD (HL),H` (R79). -/
def exec_ld_hlInd_h (s : State) : Result := ldHlReg .h s

/-- `LD (HL),L` (R79). -/
def exec_ld_hlInd_l (s : State) : Result := ldHlReg .l s

/-- `LD (HL),A` (R79). -/
def exec_ld_hlInd_a (s : State) : Result := ldHlReg .a s

/-- `LD A,B` (R76). -/
def exec_ld_a_b (s : State) : Result := ldRegReg .a .b s

/-- `LD A,C` (R76). -/
def exec_ld_a_c (s : State) : Result := ldRegReg .a .c s

/-- `LD A,D` (R76). -/
def exec_ld_a_d (s : State) : Result := ldRegReg .a .d s

/-- `LD A,E` (R76). -/
def exec_ld_a_e (s : State) : Result := ldRegReg .a .e s

/-- `LD A,H` (R76). -/
def exec_ld_a_h (s : State) : Result := ldRegReg .a .h s

/-- `LD A,L` (R76). -/
def exec_ld_a_l (s : State) : Result := ldRegReg .a .l s

/-- `LD A,(HL)` (R78). -/
def exec_ld_a_hlInd (s : State) : Result := ldRegHl .a s

/-- `LD A,A` (R76). -/
def exec_ld_a_a (s : State) : Result := ldRegReg .a .a s

/-- `LD (FF00+n),A` (R90). -/
def exec_ld_ff00n_a (n : Byte) (s : State) : Result := storeA (highPage n) 12 s

/-- `LD (FF00+C),A` (R92). -/
def exec_ld_ff00c_a (s : State) : Result := storeA (highPage s.c) 8 s

/-- `LD (nn),A` (R94). -/
def exec_ld_nnInd_a (nn : Word) (s : State) : Result := storeA nn 16 s

/-- `LD A,(FF00+n)` (R91). -/
def exec_ld_a_ff00n (n : Byte) (s : State) : Result := loadA (highPage n) 12 s

/-- `LD A,(FF00+C)` (R93). -/
def exec_ld_a_ff00c (s : State) : Result := loadA (highPage s.c) 8 s

/-- `LD A,(nn)` (R85). -/
def exec_ld_a_nnInd (nn : Word) (s : State) : Result := loadA nn 16 s

end Sys2Proof.Machine
end

