-- ==== Sys2Proof/Machine/LoadWord.lean ====
section
/-! DEFINITION. The 16-bit loads and the stack transfers (`40_loads.md` R95 to R101). -/

namespace Sys2Proof.Machine

/-- `R16[p] <- n16` (R95). -/
def ldPairImm (p : Reg16) (nn : Word) (s : State) : Result :=
  .next ((s.setReg16 p nn).addCycles 12)

/-- `MemWrite(nn, 2, SP)` (R96, `90_conflicts.md` C7). -/
def ldAbsSp (nn : Word) (s : State) : Result :=
  .next ((s.writeWord nn s.sp).addCycles 20)

/-- `SP <- HL` (R97). -/
def ldSpHl (s : State) : Result :=
  .next ((s.setReg16 .sp s.hl).addCycles 8)

/-- `HL <- sp_add(SP, e)`, Z and N forced 0, SP unchanged (R98). -/
def ldHlSpOffset (e : Byte) (s : State) : Result :=
  let r := spAdd s.sp e
  .next (((s.setHl r.value).setFlags false false r.h r.c).addCycles 12)

/-- `Push16(R16STK[p])` (R99). -/
def push (p : StackPair) (s : State) : Result :=
  .next ((s.push16 (s.stackPair p)).addCycles 16)

/-- `R16STK[p] <- Pop16()`; AF through `set_af` (R100, R101). -/
def pop (p : StackPair) (s : State) : Result :=
  let (v, t) := s.pop16
  .next ((t.setStackPair p v).addCycles 12)

/-- `LD BC,n16` (R95). -/
def exec_ld_bc_n16 (nn : Word) (s : State) : Result := ldPairImm .bc nn s

/-- `LD (nn),SP` (R96). -/
def exec_ld_nnInd_sp (nn : Word) (s : State) : Result := ldAbsSp nn s

/-- `LD DE,n16` (R95). -/
def exec_ld_de_n16 (nn : Word) (s : State) : Result := ldPairImm .de nn s

/-- `LD HL,n16` (R95). -/
def exec_ld_hl_n16 (nn : Word) (s : State) : Result := ldPairImm .hl nn s

/-- `LD SP,n16` (R95). -/
def exec_ld_sp_n16 (nn : Word) (s : State) : Result := ldPairImm .sp nn s

/-- `POP BC` (R100). -/
def exec_pop_bc (s : State) : Result := pop .bc s

/-- `PUSH BC` (R99). -/
def exec_push_bc (s : State) : Result := push .bc s

/-- `POP DE` (R100). -/
def exec_pop_de (s : State) : Result := pop .de s

/-- `PUSH DE` (R99). -/
def exec_push_de (s : State) : Result := push .de s

/-- `POP HL` (R100). -/
def exec_pop_hl (s : State) : Result := pop .hl s

/-- `PUSH HL` (R99). -/
def exec_push_hl (s : State) : Result := push .hl s

/-- `POP AF` (R101). -/
def exec_pop_af (s : State) : Result := pop .af s

/-- `PUSH AF` (R99). -/
def exec_push_af (s : State) : Result := push .af s

/-- `LD HL,SP+e` (R98). -/
def exec_ld_hl_spe (e : Byte) (s : State) : Result := ldHlSpOffset e s

/-- `LD SP,HL` (R97). -/
def exec_ld_sp_hl (s : State) : Result := ldSpHl s

end Sys2Proof.Machine
end

