-- ==== Sys2Proof/Machine/Misc.lean ====
section
/-! DEFINITION. The accumulator rotates, DAA, the flag operations, CPU control and the unimplemented opcodes (`43_misc.md` R138
to R151). -/

namespace Sys2Proof.Machine

/-- A non-CB rotate of A: Z forced 0, N = H = 0 (R138 to R141). -/
def rotateA (op : RotateOp) (s : State) : Result :=
  let r := op.result s.a (s.flag .c)
  .next (((s.setReg8 .a r.value).setFlags false false false r.carry).addCycles 4)

/-- R142: Z from the result, H = 0, C as adjusted, N unchanged. -/
def decimalAdjust (s : State) : Result :=
  let r := daaResult s.a (s.flag .n) (s.flag .h) (s.flag .c)
  .next (((((s.setReg8 .a r.value).setFlag .z (r.value == 0#8)).setFlag .h false).setFlag .c r.carry).addCycles 4)

/-- R143: N = H = 1, Z and C unchanged. -/
def complementA (s : State) : Result :=
  .next ((((s.setReg8 .a (~~~s.a)).setFlag .n true).setFlag .h true).addCycles 4)

/-- R144: C = 1, N = H = 0, Z unchanged. -/
def setCarry (s : State) : Result := .next ((s.setNhc false false true).addCycles 4)

/-- R145: C inverted, N = H = 0, Z unchanged. -/
def complementCarry (s : State) : Result := .next ((s.setNhc false false (!s.flag .c)).addCycles 4)

/-- R146. -/
def noOperation (s : State) : Result := .next (s.addCycles 4)

/-- R147: treated as NOP for this core, one byte long (log 9). -/
def stop (s : State) : Result := .next (s.addCycles 4)

/-- R148: nothing in the core clears HALT again (log 10). -/
def haltCore (s : State) : Result := .next (({ s with halt := true }).addCycles 4)

/-- R149, R150: effective at once (log 11). -/
def writeIme (v : Bool) (s : State) : Result := .next (({ s with ime := v }).addCycles 4)

/-- R151: a next state under either policy; the run ends at the NEXT step of a state whose fault mark is set (log 3). -/
def unimplementedOpcode (op : Byte) (s : State) : Result :=
  .next (s.raiseUnimplemented Config.unimplPolicy op)

/-- `NOP` (R146). -/
def exec_nop (s : State) : Result := noOperation s

/-- `RLCA` (R138). -/
def exec_rlca (s : State) : Result := rotateA .rlc s

/-- `RRCA` (R139). -/
def exec_rrca (s : State) : Result := rotateA .rrc s

/-- `STOP` (R147). -/
def exec_stop (s : State) : Result := stop s

/-- `RLA` (R140). -/
def exec_rla (s : State) : Result := rotateA .rl s

/-- `RRA` (R141). -/
def exec_rra (s : State) : Result := rotateA .rr s

/-- `DAA` (R142). -/
def exec_daa (s : State) : Result := decimalAdjust s

/-- `CPL` (R143). -/
def exec_cpl (s : State) : Result := complementA s

/-- `SCF` (R144). -/
def exec_scf (s : State) : Result := setCarry s

/-- `CCF` (R145). -/
def exec_ccf (s : State) : Result := complementCarry s

/-- `HALT` (R148). -/
def exec_halt (s : State) : Result := haltCore s

/-- `DI` (R149). -/
def exec_di (s : State) : Result := writeIme false s

/-- `EI` (R150). -/
def exec_ei (s : State) : Result := writeIme true s

/-- UNIMPLEMENTED (R151, R66): the one error event, under the policy of the configuration. -/
def exec_unimplemented (op : Byte) (s : State) : Result := unimplementedOpcode op s

end Sys2Proof.Machine
end

