-- ==== Sys2Proof/Machine/Fetch.lean ====
section
/-! DEFINITION. Fetching an instruction (`00_scope.md` R11, `30_encoding.md` R56): bytes are read from memory at PC, with no
cache and no prefetch (`20_memory.md` R55), and PC wraps modulo 65 536 (`10_state.md` R22). -/

namespace Sys2Proof.Machine

/-- The instruction at PC and its length. The decoder is given three bytes and depends only on those of the instruction; a read
has no side effect (`20_memory.md` R50; log 25). -/
def State.fetched (s : State) : Instr × Nat :=
  decodeWindow (s.readByte s.pc) (s.readByte (s.pc + 1#16)) (s.readByte (s.pc + 2#16))

/-- PC moved past `n` fetched bytes (`10_state.md` R22). -/
def State.advance (s : State) (n : Nat) : State := { s with pc := s.pc + BitVec.ofNat 16 n }

/-- The state once every byte of the instruction has been fetched, before any effect of it (`30_encoding.md` R56). -/
def State.afterFetch (s : State) : State := s.advance s.fetched.2

/-- A step while HALT is set: 4 T-cycles, no fetch (`60_exceptions.md` R168, `70_reset_and_hazards.md` R204). -/
def State.haltedCycle (s : State) : State := s.addCycles 4

/-- `s` with bytes stored at PC and nothing set that keeps a step from fetching (R168). -/
def State.placedForFetch (s : State) (bytes : List Byte) : State :=
  { s.writeBytes s.pc bytes with halt := false, fault := none }

end Sys2Proof.Machine
end

