-- ==== Sys2Proof/Machine/Step.lean ====
section
/-! DEFINITION. One step, D0's `cycle()` (`60_exceptions.md` R168), and the placing of one instruction where the next step
fetches it. -/

namespace Sys2Proof.Machine

/-- R168: a state whose fault mark is set takes no step; a halted one adds 4 T-cycles and fetches nothing; otherwise the bytes
of one instruction are fetched, PC moves past them, and the instruction is executed. The fault is tested first (R172). -/
def step (s : State) : Host.Outcome State Fault Refusal :=
  match s.fault with
  | some reason => .fault reason
  | none =>
    if s.halt then .next s.haltedCycle
    else exec s.fetched.1 s.afterFetch

/-- `s` with the instruction of an opcode-table word stored at PC, and with nothing that would keep the next step from fetching
it: HALT and the fault mark clear (log 17). -/
def State.withFetchWord (s : State) (nbits w : Nat) : State :=
  s.placedForFetch (tableBytes nbits w)

end Sys2Proof.Machine
end

