-- ==== Sys2Proof/Machine/Cycles.lean ====
section
/-! DEFINITION. The cost table of every opcode as `70_reset_and_hazards.md` R207 prints it (the parameter `CYCLE_TABLE`). The
instructions' meanings take their costs from the "Cycles" line of their own rules; a statement says that the two agree. The
entries R207 stars are the spec's own general knowledge (log 5). -/

namespace Sys2Proof.Machine

/-- What an instruction costs, in T-cycles: the taken and the not-taken amount (R203). -/
structure Cost where
  taken : Nat
  notTaken : Nat
  deriving DecidableEq, Repr

/-- A cost that does not depend on a condition. -/
def flat (n : Nat) : Cost := { taken := n, notTaken := n }

/-- The cost of a conditional branch, taken and not taken (R203). -/
def branch (t n : Nat) : Cost := { taken := t, notTaken := n }

/-- The primary half of R207's table. The prefix byte 0xCB and the eleven unimplemented opcodes have no entry of their own and
stand as 0. -/
def primaryCosts : List (List Cost) :=
  [ [flat 4, flat 12, flat 8, flat 8, flat 4, flat 4, flat 8, flat 4,
      flat 20, flat 8, flat 8, flat 8, flat 4, flat 4, flat 8, flat 4],
    [flat 4, flat 12, flat 8, flat 8, flat 4, flat 4, flat 8, flat 4,
      flat 12, flat 8, flat 8, flat 8, flat 4, flat 4, flat 8, flat 4],
    [branch 12 8, flat 12, flat 8, flat 8, flat 4, flat 4, flat 8, flat 4,
      branch 12 8, flat 8, flat 8, flat 8, flat 4, flat 4, flat 8, flat 4],
    [branch 12 8, flat 12, flat 8, flat 8, flat 12, flat 12, flat 12, flat 4,
      branch 12 8, flat 8, flat 8, flat 8, flat 4, flat 4, flat 8, flat 4],
    [flat 4, flat 4, flat 4, flat 4, flat 4, flat 4, flat 8, flat 4,
      flat 4, flat 4, flat 4, flat 4, flat 4, flat 4, flat 8, flat 4],
    [flat 4, flat 4, flat 4, flat 4, flat 4, flat 4, flat 8, flat 4,
      flat 4, flat 4, flat 4, flat 4, flat 4, flat 4, flat 8, flat 4],
    [flat 4, flat 4, flat 4, flat 4, flat 4, flat 4, flat 8, flat 4,
      flat 4, flat 4, flat 4, flat 4, flat 4, flat 4, flat 8, flat 4],
    [flat 8, flat 8, flat 8, flat 8, flat 8, flat 8, flat 4, flat 8,
      flat 4, flat 4, flat 4, flat 4, flat 4, flat 4, flat 8, flat 4],
    [flat 4, flat 4, flat 4, flat 4, flat 4, flat 4, flat 8, flat 4,
      flat 4, flat 4, flat 4, flat 4, flat 4, flat 4, flat 8, flat 4],
    [flat 4, flat 4, flat 4, flat 4, flat 4, flat 4, flat 8, flat 4,
      flat 4, flat 4, flat 4, flat 4, flat 4, flat 4, flat 8, flat 4],
    [flat 4, flat 4, flat 4, flat 4, flat 4, flat 4, flat 8, flat 4,
      flat 4, flat 4, flat 4, flat 4, flat 4, flat 4, flat 8, flat 4],
    [flat 4, flat 4, flat 4, flat 4, flat 4, flat 4, flat 8, flat 4,
      flat 4, flat 4, flat 4, flat 4, flat 4, flat 4, flat 8, flat 4],
    [branch 20 8, flat 12, branch 16 12, flat 16, branch 24 12, flat 16, flat 8, flat 16,
      branch 20 8, flat 16, branch 16 12, flat 0, branch 24 12, flat 24, flat 8, flat 16],
    [branch 20 8, flat 12, branch 16 12, flat 0, branch 24 12, flat 16, flat 8, flat 16,
      branch 20 8, flat 16, branch 16 12, flat 0, branch 24 12, flat 0, flat 8, flat 16],
    [flat 12, flat 12, flat 8, flat 0, flat 0, flat 16, flat 8, flat 16,
      flat 16, flat 4, flat 16, flat 0, flat 0, flat 0, flat 8, flat 16],
    [flat 12, flat 12, flat 8, flat 4, flat 0, flat 16, flat 8, flat 16,
      flat 12, flat 8, flat 16, flat 4, flat 0, flat 0, flat 8, flat 16] ]

/-- The 0xCB half of R207's table, by the second byte (R205). -/
def cbCosts : List (List Nat) :=
  [ [8, 8, 8, 8, 8, 8, 16, 8, 8, 8, 8, 8, 8, 8, 16, 8],
    [8, 8, 8, 8, 8, 8, 16, 8, 8, 8, 8, 8, 8, 8, 16, 8],
    [8, 8, 8, 8, 8, 8, 16, 8, 8, 8, 8, 8, 8, 8, 16, 8],
    [8, 8, 8, 8, 8, 8, 16, 8, 8, 8, 8, 8, 8, 8, 16, 8],
    [8, 8, 8, 8, 8, 8, 12, 8, 8, 8, 8, 8, 8, 8, 12, 8],
    [8, 8, 8, 8, 8, 8, 12, 8, 8, 8, 8, 8, 8, 8, 12, 8],
    [8, 8, 8, 8, 8, 8, 12, 8, 8, 8, 8, 8, 8, 8, 12, 8],
    [8, 8, 8, 8, 8, 8, 12, 8, 8, 8, 8, 8, 8, 8, 12, 8],
    [8, 8, 8, 8, 8, 8, 16, 8, 8, 8, 8, 8, 8, 8, 16, 8],
    [8, 8, 8, 8, 8, 8, 16, 8, 8, 8, 8, 8, 8, 8, 16, 8],
    [8, 8, 8, 8, 8, 8, 16, 8, 8, 8, 8, 8, 8, 8, 16, 8],
    [8, 8, 8, 8, 8, 8, 16, 8, 8, 8, 8, 8, 8, 8, 16, 8],
    [8, 8, 8, 8, 8, 8, 16, 8, 8, 8, 8, 8, 8, 8, 16, 8],
    [8, 8, 8, 8, 8, 8, 16, 8, 8, 8, 8, 8, 8, 8, 16, 8],
    [8, 8, 8, 8, 8, 8, 16, 8, 8, 8, 8, 8, 8, 8, 16, 8],
    [8, 8, 8, 8, 8, 8, 16, 8, 8, 8, 8, 8, 8, 8, 16, 8] ]

/-- The cost R207 gives an instruction, found by its bytes. -/
def tableCost (i : Instr) : Cost :=
  match encode i with
  | [] => flat 0
  | op :: operands =>
    if op = 0xCB#8 then
      let op2 := operands.headD 0#8
      flat ((cbCosts.getD (op2.toNat / 16) []).getD (op2.toNat % 16) 0)
    else (primaryCosts.getD (op.toNat / 16) []).getD (op.toNat % 16) (flat 0)

end Sys2Proof.Machine
end

