-- ==== Sys2Proof/Machine/Forms.lean ====
section
/-! DEFINITION. The instruction set seen through its operand fields: one constructor for each instruction RULE of the family
files, carrying the operands its fields name (`30_encoding.md` R57 to R63). `Form.instr` says which constructor of `Instr` a
form is, `Form.bytes` assembles its encoding from the fields (`30_encoding.md` R62, R65, R67). The machine does not use this
file: statements about a whole family are written with it. -/

namespace Sys2Proof.Machine

/-- An instruction rule with its operands. -/
inductive Form where
  | ldRegReg (dst src : Reg8)
  | ldRegImm (dst : Reg8) (n : Byte)
  | ldRegHl (dst : Reg8)
  | ldHlReg (src : Reg8)
  | ldHlImm (n : Byte)
  | ldABc
  | ldADe
  | ldBcA
  | ldDeA
  | ldAAbs (nn : Word)
  | ldHlIncA
  | ldHlDecA
  | ldAHlInc
  | ldAHlDec
  | ldHighA (n : Byte)
  | ldAHigh (n : Byte)
  | ldHighCA
  | ldAHighC
  | ldAbsA (nn : Word)
  | ldPairImm (p : Reg16) (nn : Word)
  | ldAbsSp (nn : Word)
  | ldSpHl
  | ldHlSpOffset (e : Byte)
  | push (p : StackPair)
  | pop (p : StackPair)
  | alu (op : AluOp) (x : Operand8)
  | aluImm (op : AluOp) (n : Byte)
  | incByte (x : Operand8)
  | decByte (x : Operand8)
  | incPair (p : Reg16)
  | decPair (p : Reg16)
  | addHl (p : Reg16)
  | addSp (e : Byte)
  | jp (nn : Word)
  | jpIf (cc : Cond) (nn : Word)
  | jpHl
  | jr (e : Byte)
  | jrIf (cc : Cond) (e : Byte)
  | call (nn : Word)
  | callIf (cc : Cond) (nn : Word)
  | ret
  | retIf (cc : Cond)
  | reti
  | rst (t : Fin 8)
  | rlca
  | rrca
  | rla
  | rra
  | daa
  | cpl
  | scf
  | ccf
  | nop
  | stop
  | halt
  | di
  | ei
  | unimplemented (op : Byte)
  | rotate (op : RotateOp) (x : Operand8)
  | testBit (b : Fin 8) (x : Operand8)
  | resetBit (b : Fin 8) (x : Operand8)
  | setBit (b : Fin 8) (x : Operand8)
  deriving DecidableEq, Repr

/-- One of eight things by a field `r8`, listed in the field's order B C D E H L (HL) A (`30_encoding.md` R57). -/
def Operand8.pick {α : Type} (x : Operand8) (b c d e h l hl a : α) : α :=
  match x with
  | .reg .b => b
  | .reg .c => c
  | .reg .d => d
  | .reg .e => e
  | .reg .h => h
  | .reg .l => l
  | .atHl => hl
  | .reg .a => a

/-- One of seven things by a register, listed in the order B C D E H L A. -/
def Reg8.pick {α : Type} (r : Reg8) (b c d e h l a : α) : α :=
  match r with
  | .b => b
  | .c => c
  | .d => d
  | .e => e
  | .h => h
  | .l => l
  | .a => a

/-- One of four things by a field `r16`, in the order BC DE HL SP (`30_encoding.md` R58). -/
def Reg16.pick {α : Type} (p : Reg16) (bc de hl sp : α) : α :=
  match p with
  | .bc => bc
  | .de => de
  | .hl => hl
  | .sp => sp

/-- One of four things by a field `r16stk`, in the order BC DE HL AF (`30_encoding.md` R59). -/
def StackPair.pick {α : Type} (p : StackPair) (bc de hl af : α) : α :=
  match p with
  | .bc => bc
  | .de => de
  | .hl => hl
  | .af => af

/-- One of four things by a condition, in the order NZ Z NC C (`30_encoding.md` R60). -/
def Cond.pick {α : Type} (cc : Cond) (nz z nc c : α) : α :=
  match cc with
  | .nz => nz
  | .z => z
  | .nc => nc
  | .c => c

/-- The 49 constructors of `LD r,r'` (R76). -/
def ldRegRegInstr (dst src : Reg8) : Instr :=
  match dst with
  | .b => src.pick .ld_b_b .ld_b_c .ld_b_d .ld_b_e .ld_b_h .ld_b_l .ld_b_a
  | .c => src.pick .ld_c_b .ld_c_c .ld_c_d .ld_c_e .ld_c_h .ld_c_l .ld_c_a
  | .d => src.pick .ld_d_b .ld_d_c .ld_d_d .ld_d_e .ld_d_h .ld_d_l .ld_d_a
  | .e => src.pick .ld_e_b .ld_e_c .ld_e_d .ld_e_e .ld_e_h .ld_e_l .ld_e_a
  | .h => src.pick .ld_h_b .ld_h_c .ld_h_d .ld_h_e .ld_h_h .ld_h_l .ld_h_a
  | .l => src.pick .ld_l_b .ld_l_c .ld_l_d .ld_l_e .ld_l_h .ld_l_l .ld_l_a
  | .a => src.pick .ld_a_b .ld_a_c .ld_a_d .ld_a_e .ld_a_h .ld_a_l .ld_a_a

/-- The 64 constructors of the A-ALU matrix (R105 to R113). -/
def aluInstr (op : AluOp) (x : Operand8) : Instr :=
  match op with
  | .add => x.pick .add_a_b .add_a_c .add_a_d .add_a_e .add_a_h .add_a_l .add_a_hlInd .add_a_a
  | .adc => x.pick .adc_a_b .adc_a_c .adc_a_d .adc_a_e .adc_a_h .adc_a_l .adc_a_hlInd .adc_a_a
  | .sub => x.pick .sub_b .sub_c .sub_d .sub_e .sub_h .sub_l .sub_hlInd .sub_a
  | .sbc => x.pick .sbc_a_b .sbc_a_c .sbc_a_d .sbc_a_e .sbc_a_h .sbc_a_l .sbc_a_hlInd .sbc_a_a
  | .and => x.pick .and_b .and_c .and_d .and_e .and_h .and_l .and_hlInd .and_a
  | .xor => x.pick .xor_b .xor_c .xor_d .xor_e .xor_h .xor_l .xor_hlInd .xor_a
  | .or => x.pick .or_b .or_c .or_d .or_e .or_h .or_l .or_hlInd .or_a
  | .cp => x.pick .cp_b .cp_c .cp_d .cp_e .cp_h .cp_l .cp_hlInd .cp_a

/-- The 8 constructors of the A-ALU operations with an immediate (R105 to R113). -/
def aluImmInstr (op : AluOp) (n : Byte) : Instr :=
  match op with
  | .add => .add_a_n8 n
  | .adc => .adc_a_n8 n
  | .sub => .sub_n8 n
  | .sbc => .sbc_a_n8 n
  | .and => .and_n8 n
  | .xor => .xor_n8 n
  | .or => .or_n8 n
  | .cp => .cp_n8 n

/-- The 64 constructors of the CB rotates and shifts (R154 to R161). -/
def rotateInstr (op : RotateOp) (x : Operand8) : Instr :=
  match op with
  | .rlc => x.pick .rlc_b .rlc_c .rlc_d .rlc_e .rlc_h .rlc_l .rlc_hlInd .rlc_a
  | .rrc => x.pick .rrc_b .rrc_c .rrc_d .rrc_e .rrc_h .rrc_l .rrc_hlInd .rrc_a
  | .rl => x.pick .rl_b .rl_c .rl_d .rl_e .rl_h .rl_l .rl_hlInd .rl_a
  | .rr => x.pick .rr_b .rr_c .rr_d .rr_e .rr_h .rr_l .rr_hlInd .rr_a
  | .sla => x.pick .sla_b .sla_c .sla_d .sla_e .sla_h .sla_l .sla_hlInd .sla_a
  | .sra => x.pick .sra_b .sra_c .sra_d .sra_e .sra_h .sra_l .sra_hlInd .sra_a
  | .swap => x.pick .swap_b .swap_c .swap_d .swap_e .swap_h .swap_l .swap_hlInd .swap_a
  | .srl => x.pick .srl_b .srl_c .srl_d .srl_e .srl_h .srl_l .srl_hlInd .srl_a

/-- The 64 constructors of `BIT b,r8` (R162). -/
def testBitInstr (b : Fin 8) (x : Operand8) : Instr :=
  match b with
  | 0 => x.pick .bit_0_b .bit_0_c .bit_0_d .bit_0_e .bit_0_h .bit_0_l .bit_0_hlInd .bit_0_a
  | 1 => x.pick .bit_1_b .bit_1_c .bit_1_d .bit_1_e .bit_1_h .bit_1_l .bit_1_hlInd .bit_1_a
  | 2 => x.pick .bit_2_b .bit_2_c .bit_2_d .bit_2_e .bit_2_h .bit_2_l .bit_2_hlInd .bit_2_a
  | 3 => x.pick .bit_3_b .bit_3_c .bit_3_d .bit_3_e .bit_3_h .bit_3_l .bit_3_hlInd .bit_3_a
  | 4 => x.pick .bit_4_b .bit_4_c .bit_4_d .bit_4_e .bit_4_h .bit_4_l .bit_4_hlInd .bit_4_a
  | 5 => x.pick .bit_5_b .bit_5_c .bit_5_d .bit_5_e .bit_5_h .bit_5_l .bit_5_hlInd .bit_5_a
  | 6 => x.pick .bit_6_b .bit_6_c .bit_6_d .bit_6_e .bit_6_h .bit_6_l .bit_6_hlInd .bit_6_a
  | 7 => x.pick .bit_7_b .bit_7_c .bit_7_d .bit_7_e .bit_7_h .bit_7_l .bit_7_hlInd .bit_7_a

/-- The 64 constructors of `RES b,r8` (R164). -/
def resetBitInstr (b : Fin 8) (x : Operand8) : Instr :=
  match b with
  | 0 => x.pick .res_0_b .res_0_c .res_0_d .res_0_e .res_0_h .res_0_l .res_0_hlInd .res_0_a
  | 1 => x.pick .res_1_b .res_1_c .res_1_d .res_1_e .res_1_h .res_1_l .res_1_hlInd .res_1_a
  | 2 => x.pick .res_2_b .res_2_c .res_2_d .res_2_e .res_2_h .res_2_l .res_2_hlInd .res_2_a
  | 3 => x.pick .res_3_b .res_3_c .res_3_d .res_3_e .res_3_h .res_3_l .res_3_hlInd .res_3_a
  | 4 => x.pick .res_4_b .res_4_c .res_4_d .res_4_e .res_4_h .res_4_l .res_4_hlInd .res_4_a
  | 5 => x.pick .res_5_b .res_5_c .res_5_d .res_5_e .res_5_h .res_5_l .res_5_hlInd .res_5_a
  | 6 => x.pick .res_6_b .res_6_c .res_6_d .res_6_e .res_6_h .res_6_l .res_6_hlInd .res_6_a
  | 7 => x.pick .res_7_b .res_7_c .res_7_d .res_7_e .res_7_h .res_7_l .res_7_hlInd .res_7_a

/-- The 64 constructors of `SET b,r8` (R163). -/
def setBitInstr (b : Fin 8) (x : Operand8) : Instr :=
  match b with
  | 0 => x.pick .set_0_b .set_0_c .set_0_d .set_0_e .set_0_h .set_0_l .set_0_hlInd .set_0_a
  | 1 => x.pick .set_1_b .set_1_c .set_1_d .set_1_e .set_1_h .set_1_l .set_1_hlInd .set_1_a
  | 2 => x.pick .set_2_b .set_2_c .set_2_d .set_2_e .set_2_h .set_2_l .set_2_hlInd .set_2_a
  | 3 => x.pick .set_3_b .set_3_c .set_3_d .set_3_e .set_3_h .set_3_l .set_3_hlInd .set_3_a
  | 4 => x.pick .set_4_b .set_4_c .set_4_d .set_4_e .set_4_h .set_4_l .set_4_hlInd .set_4_a
  | 5 => x.pick .set_5_b .set_5_c .set_5_d .set_5_e .set_5_h .set_5_l .set_5_hlInd .set_5_a
  | 6 => x.pick .set_6_b .set_6_c .set_6_d .set_6_e .set_6_h .set_6_l .set_6_hlInd .set_6_a
  | 7 => x.pick .set_7_b .set_7_c .set_7_d .set_7_e .set_7_h .set_7_l .set_7_hlInd .set_7_a

/-- The 8 constructors of `RST t` (R137). -/
def rstInstr (t : Fin 8) : Instr :=
  match t with
  | 0 => .rst_00h
  | 1 => .rst_08h
  | 2 => .rst_10h
  | 3 => .rst_18h
  | 4 => .rst_20h
  | 5 => .rst_28h
  | 6 => .rst_30h
  | 7 => .rst_38h

/-- The constructor of `Instr` a form is. -/
def Form.instr : Form → Instr
  | .ldRegReg dst src => ldRegRegInstr dst src
  | .ldRegImm dst n => dst.pick (.ld_b_n8 n) (.ld_c_n8 n) (.ld_d_n8 n) (.ld_e_n8 n) (.ld_h_n8 n) (.ld_l_n8 n) (.ld_a_n8 n)
  | .ldRegHl dst => dst.pick .ld_b_hlInd .ld_c_hlInd .ld_d_hlInd .ld_e_hlInd .ld_h_hlInd .ld_l_hlInd .ld_a_hlInd
  | .ldHlReg src => src.pick .ld_hlInd_b .ld_hlInd_c .ld_hlInd_d .ld_hlInd_e .ld_hlInd_h .ld_hlInd_l .ld_hlInd_a
  | .ldHlImm n => .ld_hlInd_n8 n
  | .ldABc => .ld_a_bcInd
  | .ldADe => .ld_a_deInd
  | .ldBcA => .ld_bcInd_a
  | .ldDeA => .ld_deInd_a
  | .ldAAbs nn => .ld_a_nnInd nn
  | .ldHlIncA => .ld_hlInc_a
  | .ldHlDecA => .ld_hlDec_a
  | .ldAHlInc => .ld_a_hlInc
  | .ldAHlDec => .ld_a_hlDec
  | .ldHighA n => .ld_ff00n_a n
  | .ldAHigh n => .ld_a_ff00n n
  | .ldHighCA => .ld_ff00c_a
  | .ldAHighC => .ld_a_ff00c
  | .ldAbsA nn => .ld_nnInd_a nn
  | .ldPairImm p nn => p.pick (.ld_bc_n16 nn) (.ld_de_n16 nn) (.ld_hl_n16 nn) (.ld_sp_n16 nn)
  | .ldAbsSp nn => .ld_nnInd_sp nn
  | .ldSpHl => .ld_sp_hl
  | .ldHlSpOffset e => .ld_hl_spe e
  | .push p => p.pick .push_bc .push_de .push_hl .push_af
  | .pop p => p.pick .pop_bc .pop_de .pop_hl .pop_af
  | .alu op x => aluInstr op x
  | .aluImm op n => aluImmInstr op n
  | .incByte x => x.pick .inc_b .inc_c .inc_d .inc_e .inc_h .inc_l .inc_hlInd .inc_a
  | .decByte x => x.pick .dec_b .dec_c .dec_d .dec_e .dec_h .dec_l .dec_hlInd .dec_a
  | .incPair p => p.pick .inc_bc .inc_de .inc_hl .inc_sp
  | .decPair p => p.pick .dec_bc .dec_de .dec_hl .dec_sp
  | .addHl p => p.pick .add_hl_bc .add_hl_de .add_hl_hl .add_hl_sp
  | .addSp e => .add_sp_e e
  | .jp nn => .jp_nn nn
  | .jpIf cc nn => cc.pick (.jp_nz_nn nn) (.jp_z_nn nn) (.jp_nc_nn nn) (.jp_c_nn nn)
  | .jpHl => .jp_hl
  | .jr e => .jr_e e
  | .jrIf cc e => cc.pick (.jr_nz_e e) (.jr_z_e e) (.jr_nc_e e) (.jr_c_e e)
  | .call nn => .call_nn nn
  | .callIf cc nn => cc.pick (.call_nz_nn nn) (.call_z_nn nn) (.call_nc_nn nn) (.call_c_nn nn)
  | .ret => .ret
  | .retIf cc => cc.pick .ret_nz .ret_z .ret_nc .ret_c
  | .reti => .reti
  | .rst t => rstInstr t
  | .rlca => .rlca
  | .rrca => .rrca
  | .rla => .rla
  | .rra => .rra
  | .daa => .daa
  | .cpl => .cpl
  | .scf => .scf
  | .ccf => .ccf
  | .nop => .nop
  | .stop => .stop
  | .halt => .halt
  | .di => .di
  | .ei => .ei
  | .unimplemented op => .unimplemented op
  | .rotate op x => rotateInstr op x
  | .testBit b x => testBitInstr b x
  | .resetBit b x => resetBitInstr b x
  | .setBit b x => setBitInstr b x

/-- The register field (`30_encoding.md` R57). -/
def Reg8.code (r : Reg8) : Nat := r.pick 0 1 2 3 4 5 7

/-- The operand field `r8` (`30_encoding.md` R57). -/
def Operand8.code (x : Operand8) : Nat := x.pick 0 1 2 3 4 5 6 7

/-- The pair field `r16` (`30_encoding.md` R58). -/
def Reg16.code (p : Reg16) : Nat := p.pick 0 1 2 3

/-- The pair field `r16stk` (`30_encoding.md` R59). -/
def StackPair.code (p : StackPair) : Nat := p.pick 0 1 2 3

/-- The condition field (`30_encoding.md` R60). -/
def Cond.code (cc : Cond) : Nat := cc.pick 0 1 2 3

/-- The ALU operation field (`30_encoding.md` R62). -/
def AluOp.code : AluOp → Nat
  | .add => 0
  | .adc => 1
  | .sub => 2
  | .sbc => 3
  | .and => 4
  | .xor => 5
  | .or => 6
  | .cp => 7

/-- The CB operation field (`30_encoding.md` R62). -/
def RotateOp.code : RotateOp → Nat
  | .rlc => 0
  | .rrc => 1
  | .rl => 2
  | .rr => 3
  | .sla => 4
  | .sra => 5
  | .swap => 6
  | .srl => 7

/-- The opcode byte with the fields `x`, `y` and `z` (`30_encoding.md` R62). -/
def opcode (x y z : Nat) : Byte := BitVec.ofNat 8 (x * 64 + y * 8 + z)

/-- The opcode byte with the fields `x`, `p`, `q` and `z`: `y` is `p` followed by `q` (`30_encoding.md` R62). -/
def opcodeQ (x p q z : Nat) : Byte := opcode x (p * 2 + q) z

/-- The encoding of a form, assembled from its fields: the primary rows of `30_encoding.md` R65, the CB rows of R67, operand
bytes low byte first (R61, R63). -/
def Form.bytes : Form → List Byte
  | .ldRegReg dst src => [opcode 1 dst.code src.code]
  | .ldRegImm dst n => [opcode 0 dst.code 6, n]
  | .ldRegHl dst => [opcode 1 dst.code 6]
  | .ldHlReg src => [opcode 1 6 src.code]
  | .ldHlImm n => [opcode 0 6 6, n]
  | .ldABc => [opcodeQ 0 0 1 2]
  | .ldADe => [opcodeQ 0 1 1 2]
  | .ldBcA => [opcodeQ 0 0 0 2]
  | .ldDeA => [opcodeQ 0 1 0 2]
  | .ldAAbs nn => [opcode 3 7 2, loByte nn, hiByte nn]
  | .ldHlIncA => [opcodeQ 0 2 0 2]
  | .ldHlDecA => [opcodeQ 0 3 0 2]
  | .ldAHlInc => [opcodeQ 0 2 1 2]
  | .ldAHlDec => [opcodeQ 0 3 1 2]
  | .ldHighA n => [opcode 3 4 0, n]
  | .ldAHigh n => [opcode 3 6 0, n]
  | .ldHighCA => [opcode 3 4 2]
  | .ldAHighC => [opcode 3 6 2]
  | .ldAbsA nn => [opcode 3 5 2, loByte nn, hiByte nn]
  | .ldPairImm p nn => [opcodeQ 0 p.code 0 1, loByte nn, hiByte nn]
  | .ldAbsSp nn => [opcode 0 1 0, loByte nn, hiByte nn]
  | .ldSpHl => [opcodeQ 3 3 1 1]
  | .ldHlSpOffset e => [opcode 3 7 0, e]
  | .push p => [opcodeQ 3 p.code 0 5]
  | .pop p => [opcodeQ 3 p.code 0 1]
  | .alu op x => [opcode 2 op.code x.code]
  | .aluImm op n => [opcode 3 op.code 6, n]
  | .incByte x => [opcode 0 x.code 4]
  | .decByte x => [opcode 0 x.code 5]
  | .incPair p => [opcodeQ 0 p.code 0 3]
  | .decPair p => [opcodeQ 0 p.code 1 3]
  | .addHl p => [opcodeQ 0 p.code 1 1]
  | .addSp e => [opcode 3 5 0, e]
  | .jp nn => [opcode 3 0 3, loByte nn, hiByte nn]
  | .jpIf cc nn => [opcode 3 cc.code 2, loByte nn, hiByte nn]
  | .jpHl => [opcodeQ 3 2 1 1]
  | .jr e => [opcode 0 3 0, e]
  | .jrIf cc e => [opcode 0 (cc.code + 4) 0, e]
  | .call nn => [opcodeQ 3 0 1 5, loByte nn, hiByte nn]
  | .callIf cc nn => [opcode 3 cc.code 4, loByte nn, hiByte nn]
  | .ret => [opcodeQ 3 0 1 1]
  | .retIf cc => [opcode 3 cc.code 0]
  | .reti => [opcodeQ 3 1 1 1]
  | .rst t => [opcode 3 t.val 7]
  | .rlca => [opcode 0 0 7]
  | .rrca => [opcode 0 1 7]
  | .rla => [opcode 0 2 7]
  | .rra => [opcode 0 3 7]
  | .daa => [opcode 0 4 7]
  | .cpl => [opcode 0 5 7]
  | .scf => [opcode 0 6 7]
  | .ccf => [opcode 0 7 7]
  | .nop => [opcode 0 0 0]
  | .stop => [opcode 0 2 0]
  | .halt => [opcode 1 6 6]
  | .di => [opcode 3 6 3]
  | .ei => [opcode 3 7 3]
  | .unimplemented op => [op]
  | .rotate op x => [0xCB#8, opcode 0 op.code x.code]
  | .testBit b x => [0xCB#8, opcode 1 b.val x.code]
  | .resetBit b x => [0xCB#8, opcode 2 b.val x.code]
  | .setBit b x => [0xCB#8, opcode 3 b.val x.code]

/-- The form each constructor of `Instr` is. -/
def formOf : Instr → Form
  | .nop => .nop
  | .ld_bc_n16 nn => .ldPairImm .bc nn
  | .ld_bcInd_a => .ldBcA
  | .inc_bc => .incPair .bc
  | .inc_b => .incByte (.reg .b)
  | .dec_b => .decByte (.reg .b)
  | .ld_b_n8 n => .ldRegImm .b n
  | .rlca => .rlca
  | .ld_nnInd_sp nn => .ldAbsSp nn
  | .add_hl_bc => .addHl .bc
  | .ld_a_bcInd => .ldABc
  | .dec_bc => .decPair .bc
  | .inc_c => .incByte (.reg .c)
  | .dec_c => .decByte (.reg .c)
  | .ld_c_n8 n => .ldRegImm .c n
  | .rrca => .rrca
  | .stop => .stop
  | .ld_de_n16 nn => .ldPairImm .de nn
  | .ld_deInd_a => .ldDeA
  | .inc_de => .incPair .de
  | .inc_d => .incByte (.reg .d)
  | .dec_d => .decByte (.reg .d)
  | .ld_d_n8 n => .ldRegImm .d n
  | .rla => .rla
  | .jr_e e => .jr e
  | .add_hl_de => .addHl .de
  | .ld_a_deInd => .ldADe
  | .dec_de => .decPair .de
  | .inc_e => .incByte (.reg .e)
  | .dec_e => .decByte (.reg .e)
  | .ld_e_n8 n => .ldRegImm .e n
  | .rra => .rra
  | .jr_nz_e e => .jrIf .nz e
  | .ld_hl_n16 nn => .ldPairImm .hl nn
  | .ld_hlInc_a => .ldHlIncA
  | .inc_hl => .incPair .hl
  | .inc_h => .incByte (.reg .h)
  | .dec_h => .decByte (.reg .h)
  | .ld_h_n8 n => .ldRegImm .h n
  | .daa => .daa
  | .jr_z_e e => .jrIf .z e
  | .add_hl_hl => .addHl .hl
  | .ld_a_hlInc => .ldAHlInc
  | .dec_hl => .decPair .hl
  | .inc_l => .incByte (.reg .l)
  | .dec_l => .decByte (.reg .l)
  | .ld_l_n8 n => .ldRegImm .l n
  | .cpl => .cpl
  | .jr_nc_e e => .jrIf .nc e
  | .ld_sp_n16 nn => .ldPairImm .sp nn
  | .ld_hlDec_a => .ldHlDecA
  | .inc_sp => .incPair .sp
  | .inc_hlInd => .incByte .atHl
  | .dec_hlInd => .decByte .atHl
  | .ld_hlInd_n8 n => .ldHlImm n
  | .scf => .scf
  | .jr_c_e e => .jrIf .c e
  | .add_hl_sp => .addHl .sp
  | .ld_a_hlDec => .ldAHlDec
  | .dec_sp => .decPair .sp
  | .inc_a => .incByte (.reg .a)
  | .dec_a => .decByte (.reg .a)
  | .ld_a_n8 n => .ldRegImm .a n
  | .ccf => .ccf
  | .ld_b_b => .ldRegReg .b .b
  | .ld_b_c => .ldRegReg .b .c
  | .ld_b_d => .ldRegReg .b .d
  | .ld_b_e => .ldRegReg .b .e
  | .ld_b_h => .ldRegReg .b .h
  | .ld_b_l => .ldRegReg .b .l
  | .ld_b_hlInd => .ldRegHl .b
  | .ld_b_a => .ldRegReg .b .a
  | .ld_c_b => .ldRegReg .c .b
  | .ld_c_c => .ldRegReg .c .c
  | .ld_c_d => .ldRegReg .c .d
  | .ld_c_e => .ldRegReg .c .e
  | .ld_c_h => .ldRegReg .c .h
  | .ld_c_l => .ldRegReg .c .l
  | .ld_c_hlInd => .ldRegHl .c
  | .ld_c_a => .ldRegReg .c .a
  | .ld_d_b => .ldRegReg .d .b
  | .ld_d_c => .ldRegReg .d .c
  | .ld_d_d => .ldRegReg .d .d
  | .ld_d_e => .ldRegReg .d .e
  | .ld_d_h => .ldRegReg .d .h
  | .ld_d_l => .ldRegReg .d .l
  | .ld_d_hlInd => .ldRegHl .d
  | .ld_d_a => .ldRegReg .d .a
  | .ld_e_b => .ldRegReg .e .b
  | .ld_e_c => .ldRegReg .e .c
  | .ld_e_d => .ldRegReg .e .d
  | .ld_e_e => .ldRegReg .e .e
  | .ld_e_h => .ldRegReg .e .h
  | .ld_e_l => .ldRegReg .e .l
  | .ld_e_hlInd => .ldRegHl .e
  | .ld_e_a => .ldRegReg .e .a
  | .ld_h_b => .ldRegReg .h .b
  | .ld_h_c => .ldRegReg .h .c
  | .ld_h_d => .ldRegReg .h .d
  | .ld_h_e => .ldRegReg .h .e
  | .ld_h_h => .ldRegReg .h .h
  | .ld_h_l => .ldRegReg .h .l
  | .ld_h_hlInd => .ldRegHl .h
  | .ld_h_a => .ldRegReg .h .a
  | .ld_l_b => .ldRegReg .l .b
  | .ld_l_c => .ldRegReg .l .c
  | .ld_l_d => .ldRegReg .l .d
  | .ld_l_e => .ldRegReg .l .e
  | .ld_l_h => .ldRegReg .l .h
  | .ld_l_l => .ldRegReg .l .l
  | .ld_l_hlInd => .ldRegHl .l
  | .ld_l_a => .ldRegReg .l .a
  | .ld_hlInd_b => .ldHlReg .b
  | .ld_hlInd_c => .ldHlReg .c
  | .ld_hlInd_d => .ldHlReg .d
  | .ld_hlInd_e => .ldHlReg .e
  | .ld_hlInd_h => .ldHlReg .h
  | .ld_hlInd_l => .ldHlReg .l
  | .halt => .halt
  | .ld_hlInd_a => .ldHlReg .a
  | .ld_a_b => .ldRegReg .a .b
  | .ld_a_c => .ldRegReg .a .c
  | .ld_a_d => .ldRegReg .a .d
  | .ld_a_e => .ldRegReg .a .e
  | .ld_a_h => .ldRegReg .a .h
  | .ld_a_l => .ldRegReg .a .l
  | .ld_a_hlInd => .ldRegHl .a
  | .ld_a_a => .ldRegReg .a .a
  | .add_a_b => .alu .add (.reg .b)
  | .add_a_c => .alu .add (.reg .c)
  | .add_a_d => .alu .add (.reg .d)
  | .add_a_e => .alu .add (.reg .e)
  | .add_a_h => .alu .add (.reg .h)
  | .add_a_l => .alu .add (.reg .l)
  | .add_a_hlInd => .alu .add .atHl
  | .add_a_a => .alu .add (.reg .a)
  | .adc_a_b => .alu .adc (.reg .b)
  | .adc_a_c => .alu .adc (.reg .c)
  | .adc_a_d => .alu .adc (.reg .d)
  | .adc_a_e => .alu .adc (.reg .e)
  | .adc_a_h => .alu .adc (.reg .h)
  | .adc_a_l => .alu .adc (.reg .l)
  | .adc_a_hlInd => .alu .adc .atHl
  | .adc_a_a => .alu .adc (.reg .a)
  | .sub_b => .alu .sub (.reg .b)
  | .sub_c => .alu .sub (.reg .c)
  | .sub_d => .alu .sub (.reg .d)
  | .sub_e => .alu .sub (.reg .e)
  | .sub_h => .alu .sub (.reg .h)
  | .sub_l => .alu .sub (.reg .l)
  | .sub_hlInd => .alu .sub .atHl
  | .sub_a => .alu .sub (.reg .a)
  | .sbc_a_b => .alu .sbc (.reg .b)
  | .sbc_a_c => .alu .sbc (.reg .c)
  | .sbc_a_d => .alu .sbc (.reg .d)
  | .sbc_a_e => .alu .sbc (.reg .e)
  | .sbc_a_h => .alu .sbc (.reg .h)
  | .sbc_a_l => .alu .sbc (.reg .l)
  | .sbc_a_hlInd => .alu .sbc .atHl
  | .sbc_a_a => .alu .sbc (.reg .a)
  | .and_b => .alu .and (.reg .b)
  | .and_c => .alu .and (.reg .c)
  | .and_d => .alu .and (.reg .d)
  | .and_e => .alu .and (.reg .e)
  | .and_h => .alu .and (.reg .h)
  | .and_l => .alu .and (.reg .l)
  | .and_hlInd => .alu .and .atHl
  | .and_a => .alu .and (.reg .a)
  | .xor_b => .alu .xor (.reg .b)
  | .xor_c => .alu .xor (.reg .c)
  | .xor_d => .alu .xor (.reg .d)
  | .xor_e => .alu .xor (.reg .e)
  | .xor_h => .alu .xor (.reg .h)
  | .xor_l => .alu .xor (.reg .l)
  | .xor_hlInd => .alu .xor .atHl
  | .xor_a => .alu .xor (.reg .a)
  | .or_b => .alu .or (.reg .b)
  | .or_c => .alu .or (.reg .c)
  | .or_d => .alu .or (.reg .d)
  | .or_e => .alu .or (.reg .e)
  | .or_h => .alu .or (.reg .h)
  | .or_l => .alu .or (.reg .l)
  | .or_hlInd => .alu .or .atHl
  | .or_a => .alu .or (.reg .a)
  | .cp_b => .alu .cp (.reg .b)
  | .cp_c => .alu .cp (.reg .c)
  | .cp_d => .alu .cp (.reg .d)
  | .cp_e => .alu .cp (.reg .e)
  | .cp_h => .alu .cp (.reg .h)
  | .cp_l => .alu .cp (.reg .l)
  | .cp_hlInd => .alu .cp .atHl
  | .cp_a => .alu .cp (.reg .a)
  | .ret_nz => .retIf .nz
  | .pop_bc => .pop .bc
  | .jp_nz_nn nn => .jpIf .nz nn
  | .jp_nn nn => .jp nn
  | .call_nz_nn nn => .callIf .nz nn
  | .push_bc => .push .bc
  | .add_a_n8 n => .aluImm .add n
  | .rst_00h => .rst 0
  | .ret_z => .retIf .z
  | .ret => .ret
  | .jp_z_nn nn => .jpIf .z nn
  | .call_z_nn nn => .callIf .z nn
  | .call_nn nn => .call nn
  | .adc_a_n8 n => .aluImm .adc n
  | .rst_08h => .rst 1
  | .ret_nc => .retIf .nc
  | .pop_de => .pop .de
  | .jp_nc_nn nn => .jpIf .nc nn
  | .call_nc_nn nn => .callIf .nc nn
  | .push_de => .push .de
  | .sub_n8 n => .aluImm .sub n
  | .rst_10h => .rst 2
  | .ret_c => .retIf .c
  | .reti => .reti
  | .jp_c_nn nn => .jpIf .c nn
  | .call_c_nn nn => .callIf .c nn
  | .sbc_a_n8 n => .aluImm .sbc n
  | .rst_18h => .rst 3
  | .ld_ff00n_a n => .ldHighA n
  | .pop_hl => .pop .hl
  | .ld_ff00c_a => .ldHighCA
  | .push_hl => .push .hl
  | .and_n8 n => .aluImm .and n
  | .rst_20h => .rst 4
  | .add_sp_e e => .addSp e
  | .jp_hl => .jpHl
  | .ld_nnInd_a nn => .ldAbsA nn
  | .xor_n8 n => .aluImm .xor n
  | .rst_28h => .rst 5
  | .ld_a_ff00n n => .ldAHigh n
  | .pop_af => .pop .af
  | .ld_a_ff00c => .ldAHighC
  | .di => .di
  | .push_af => .push .af
  | .or_n8 n => .aluImm .or n
  | .rst_30h => .rst 6
  | .ld_hl_spe e => .ldHlSpOffset e
  | .ld_sp_hl => .ldSpHl
  | .ld_a_nnInd nn => .ldAAbs nn
  | .ei => .ei
  | .cp_n8 n => .aluImm .cp n
  | .rst_38h => .rst 7
  | .rlc_b => .rotate .rlc (.reg .b)
  | .rlc_c => .rotate .rlc (.reg .c)
  | .rlc_d => .rotate .rlc (.reg .d)
  | .rlc_e => .rotate .rlc (.reg .e)
  | .rlc_h => .rotate .rlc (.reg .h)
  | .rlc_l => .rotate .rlc (.reg .l)
  | .rlc_hlInd => .rotate .rlc .atHl
  | .rlc_a => .rotate .rlc (.reg .a)
  | .rrc_b => .rotate .rrc (.reg .b)
  | .rrc_c => .rotate .rrc (.reg .c)
  | .rrc_d => .rotate .rrc (.reg .d)
  | .rrc_e => .rotate .rrc (.reg .e)
  | .rrc_h => .rotate .rrc (.reg .h)
  | .rrc_l => .rotate .rrc (.reg .l)
  | .rrc_hlInd => .rotate .rrc .atHl
  | .rrc_a => .rotate .rrc (.reg .a)
  | .rl_b => .rotate .rl (.reg .b)
  | .rl_c => .rotate .rl (.reg .c)
  | .rl_d => .rotate .rl (.reg .d)
  | .rl_e => .rotate .rl (.reg .e)
  | .rl_h => .rotate .rl (.reg .h)
  | .rl_l => .rotate .rl (.reg .l)
  | .rl_hlInd => .rotate .rl .atHl
  | .rl_a => .rotate .rl (.reg .a)
  | .rr_b => .rotate .rr (.reg .b)
  | .rr_c => .rotate .rr (.reg .c)
  | .rr_d => .rotate .rr (.reg .d)
  | .rr_e => .rotate .rr (.reg .e)
  | .rr_h => .rotate .rr (.reg .h)
  | .rr_l => .rotate .rr (.reg .l)
  | .rr_hlInd => .rotate .rr .atHl
  | .rr_a => .rotate .rr (.reg .a)
  | .sla_b => .rotate .sla (.reg .b)
  | .sla_c => .rotate .sla (.reg .c)
  | .sla_d => .rotate .sla (.reg .d)
  | .sla_e => .rotate .sla (.reg .e)
  | .sla_h => .rotate .sla (.reg .h)
  | .sla_l => .rotate .sla (.reg .l)
  | .sla_hlInd => .rotate .sla .atHl
  | .sla_a => .rotate .sla (.reg .a)
  | .sra_b => .rotate .sra (.reg .b)
  | .sra_c => .rotate .sra (.reg .c)
  | .sra_d => .rotate .sra (.reg .d)
  | .sra_e => .rotate .sra (.reg .e)
  | .sra_h => .rotate .sra (.reg .h)
  | .sra_l => .rotate .sra (.reg .l)
  | .sra_hlInd => .rotate .sra .atHl
  | .sra_a => .rotate .sra (.reg .a)
  | .swap_b => .rotate .swap (.reg .b)
  | .swap_c => .rotate .swap (.reg .c)
  | .swap_d => .rotate .swap (.reg .d)
  | .swap_e => .rotate .swap (.reg .e)
  | .swap_h => .rotate .swap (.reg .h)
  | .swap_l => .rotate .swap (.reg .l)
  | .swap_hlInd => .rotate .swap .atHl
  | .swap_a => .rotate .swap (.reg .a)
  | .srl_b => .rotate .srl (.reg .b)
  | .srl_c => .rotate .srl (.reg .c)
  | .srl_d => .rotate .srl (.reg .d)
  | .srl_e => .rotate .srl (.reg .e)
  | .srl_h => .rotate .srl (.reg .h)
  | .srl_l => .rotate .srl (.reg .l)
  | .srl_hlInd => .rotate .srl .atHl
  | .srl_a => .rotate .srl (.reg .a)
  | .bit_0_b => .testBit 0 (.reg .b)
  | .bit_0_c => .testBit 0 (.reg .c)
  | .bit_0_d => .testBit 0 (.reg .d)
  | .bit_0_e => .testBit 0 (.reg .e)
  | .bit_0_h => .testBit 0 (.reg .h)
  | .bit_0_l => .testBit 0 (.reg .l)
  | .bit_0_hlInd => .testBit 0 .atHl
  | .bit_0_a => .testBit 0 (.reg .a)
  | .bit_1_b => .testBit 1 (.reg .b)
  | .bit_1_c => .testBit 1 (.reg .c)
  | .bit_1_d => .testBit 1 (.reg .d)
  | .bit_1_e => .testBit 1 (.reg .e)
  | .bit_1_h => .testBit 1 (.reg .h)
  | .bit_1_l => .testBit 1 (.reg .l)
  | .bit_1_hlInd => .testBit 1 .atHl
  | .bit_1_a => .testBit 1 (.reg .a)
  | .bit_2_b => .testBit 2 (.reg .b)
  | .bit_2_c => .testBit 2 (.reg .c)
  | .bit_2_d => .testBit 2 (.reg .d)
  | .bit_2_e => .testBit 2 (.reg .e)
  | .bit_2_h => .testBit 2 (.reg .h)
  | .bit_2_l => .testBit 2 (.reg .l)
  | .bit_2_hlInd => .testBit 2 .atHl
  | .bit_2_a => .testBit 2 (.reg .a)
  | .bit_3_b => .testBit 3 (.reg .b)
  | .bit_3_c => .testBit 3 (.reg .c)
  | .bit_3_d => .testBit 3 (.reg .d)
  | .bit_3_e => .testBit 3 (.reg .e)
  | .bit_3_h => .testBit 3 (.reg .h)
  | .bit_3_l => .testBit 3 (.reg .l)
  | .bit_3_hlInd => .testBit 3 .atHl
  | .bit_3_a => .testBit 3 (.reg .a)
  | .bit_4_b => .testBit 4 (.reg .b)
  | .bit_4_c => .testBit 4 (.reg .c)
  | .bit_4_d => .testBit 4 (.reg .d)
  | .bit_4_e => .testBit 4 (.reg .e)
  | .bit_4_h => .testBit 4 (.reg .h)
  | .bit_4_l => .testBit 4 (.reg .l)
  | .bit_4_hlInd => .testBit 4 .atHl
  | .bit_4_a => .testBit 4 (.reg .a)
  | .bit_5_b => .testBit 5 (.reg .b)
  | .bit_5_c => .testBit 5 (.reg .c)
  | .bit_5_d => .testBit 5 (.reg .d)
  | .bit_5_e => .testBit 5 (.reg .e)
  | .bit_5_h => .testBit 5 (.reg .h)
  | .bit_5_l => .testBit 5 (.reg .l)
  | .bit_5_hlInd => .testBit 5 .atHl
  | .bit_5_a => .testBit 5 (.reg .a)
  | .bit_6_b => .testBit 6 (.reg .b)
  | .bit_6_c => .testBit 6 (.reg .c)
  | .bit_6_d => .testBit 6 (.reg .d)
  | .bit_6_e => .testBit 6 (.reg .e)
  | .bit_6_h => .testBit 6 (.reg .h)
  | .bit_6_l => .testBit 6 (.reg .l)
  | .bit_6_hlInd => .testBit 6 .atHl
  | .bit_6_a => .testBit 6 (.reg .a)
  | .bit_7_b => .testBit 7 (.reg .b)
  | .bit_7_c => .testBit 7 (.reg .c)
  | .bit_7_d => .testBit 7 (.reg .d)
  | .bit_7_e => .testBit 7 (.reg .e)
  | .bit_7_h => .testBit 7 (.reg .h)
  | .bit_7_l => .testBit 7 (.reg .l)
  | .bit_7_hlInd => .testBit 7 .atHl
  | .bit_7_a => .testBit 7 (.reg .a)
  | .res_0_b => .resetBit 0 (.reg .b)
  | .res_0_c => .resetBit 0 (.reg .c)
  | .res_0_d => .resetBit 0 (.reg .d)
  | .res_0_e => .resetBit 0 (.reg .e)
  | .res_0_h => .resetBit 0 (.reg .h)
  | .res_0_l => .resetBit 0 (.reg .l)
  | .res_0_hlInd => .resetBit 0 .atHl
  | .res_0_a => .resetBit 0 (.reg .a)
  | .res_1_b => .resetBit 1 (.reg .b)
  | .res_1_c => .resetBit 1 (.reg .c)
  | .res_1_d => .resetBit 1 (.reg .d)
  | .res_1_e => .resetBit 1 (.reg .e)
  | .res_1_h => .resetBit 1 (.reg .h)
  | .res_1_l => .resetBit 1 (.reg .l)
  | .res_1_hlInd => .resetBit 1 .atHl
  | .res_1_a => .resetBit 1 (.reg .a)
  | .res_2_b => .resetBit 2 (.reg .b)
  | .res_2_c => .resetBit 2 (.reg .c)
  | .res_2_d => .resetBit 2 (.reg .d)
  | .res_2_e => .resetBit 2 (.reg .e)
  | .res_2_h => .resetBit 2 (.reg .h)
  | .res_2_l => .resetBit 2 (.reg .l)
  | .res_2_hlInd => .resetBit 2 .atHl
  | .res_2_a => .resetBit 2 (.reg .a)
  | .res_3_b => .resetBit 3 (.reg .b)
  | .res_3_c => .resetBit 3 (.reg .c)
  | .res_3_d => .resetBit 3 (.reg .d)
  | .res_3_e => .resetBit 3 (.reg .e)
  | .res_3_h => .resetBit 3 (.reg .h)
  | .res_3_l => .resetBit 3 (.reg .l)
  | .res_3_hlInd => .resetBit 3 .atHl
  | .res_3_a => .resetBit 3 (.reg .a)
  | .res_4_b => .resetBit 4 (.reg .b)
  | .res_4_c => .resetBit 4 (.reg .c)
  | .res_4_d => .resetBit 4 (.reg .d)
  | .res_4_e => .resetBit 4 (.reg .e)
  | .res_4_h => .resetBit 4 (.reg .h)
  | .res_4_l => .resetBit 4 (.reg .l)
  | .res_4_hlInd => .resetBit 4 .atHl
  | .res_4_a => .resetBit 4 (.reg .a)
  | .res_5_b => .resetBit 5 (.reg .b)
  | .res_5_c => .resetBit 5 (.reg .c)
  | .res_5_d => .resetBit 5 (.reg .d)
  | .res_5_e => .resetBit 5 (.reg .e)
  | .res_5_h => .resetBit 5 (.reg .h)
  | .res_5_l => .resetBit 5 (.reg .l)
  | .res_5_hlInd => .resetBit 5 .atHl
  | .res_5_a => .resetBit 5 (.reg .a)
  | .res_6_b => .resetBit 6 (.reg .b)
  | .res_6_c => .resetBit 6 (.reg .c)
  | .res_6_d => .resetBit 6 (.reg .d)
  | .res_6_e => .resetBit 6 (.reg .e)
  | .res_6_h => .resetBit 6 (.reg .h)
  | .res_6_l => .resetBit 6 (.reg .l)
  | .res_6_hlInd => .resetBit 6 .atHl
  | .res_6_a => .resetBit 6 (.reg .a)
  | .res_7_b => .resetBit 7 (.reg .b)
  | .res_7_c => .resetBit 7 (.reg .c)
  | .res_7_d => .resetBit 7 (.reg .d)
  | .res_7_e => .resetBit 7 (.reg .e)
  | .res_7_h => .resetBit 7 (.reg .h)
  | .res_7_l => .resetBit 7 (.reg .l)
  | .res_7_hlInd => .resetBit 7 .atHl
  | .res_7_a => .resetBit 7 (.reg .a)
  | .set_0_b => .setBit 0 (.reg .b)
  | .set_0_c => .setBit 0 (.reg .c)
  | .set_0_d => .setBit 0 (.reg .d)
  | .set_0_e => .setBit 0 (.reg .e)
  | .set_0_h => .setBit 0 (.reg .h)
  | .set_0_l => .setBit 0 (.reg .l)
  | .set_0_hlInd => .setBit 0 .atHl
  | .set_0_a => .setBit 0 (.reg .a)
  | .set_1_b => .setBit 1 (.reg .b)
  | .set_1_c => .setBit 1 (.reg .c)
  | .set_1_d => .setBit 1 (.reg .d)
  | .set_1_e => .setBit 1 (.reg .e)
  | .set_1_h => .setBit 1 (.reg .h)
  | .set_1_l => .setBit 1 (.reg .l)
  | .set_1_hlInd => .setBit 1 .atHl
  | .set_1_a => .setBit 1 (.reg .a)
  | .set_2_b => .setBit 2 (.reg .b)
  | .set_2_c => .setBit 2 (.reg .c)
  | .set_2_d => .setBit 2 (.reg .d)
  | .set_2_e => .setBit 2 (.reg .e)
  | .set_2_h => .setBit 2 (.reg .h)
  | .set_2_l => .setBit 2 (.reg .l)
  | .set_2_hlInd => .setBit 2 .atHl
  | .set_2_a => .setBit 2 (.reg .a)
  | .set_3_b => .setBit 3 (.reg .b)
  | .set_3_c => .setBit 3 (.reg .c)
  | .set_3_d => .setBit 3 (.reg .d)
  | .set_3_e => .setBit 3 (.reg .e)
  | .set_3_h => .setBit 3 (.reg .h)
  | .set_3_l => .setBit 3 (.reg .l)
  | .set_3_hlInd => .setBit 3 .atHl
  | .set_3_a => .setBit 3 (.reg .a)
  | .set_4_b => .setBit 4 (.reg .b)
  | .set_4_c => .setBit 4 (.reg .c)
  | .set_4_d => .setBit 4 (.reg .d)
  | .set_4_e => .setBit 4 (.reg .e)
  | .set_4_h => .setBit 4 (.reg .h)
  | .set_4_l => .setBit 4 (.reg .l)
  | .set_4_hlInd => .setBit 4 .atHl
  | .set_4_a => .setBit 4 (.reg .a)
  | .set_5_b => .setBit 5 (.reg .b)
  | .set_5_c => .setBit 5 (.reg .c)
  | .set_5_d => .setBit 5 (.reg .d)
  | .set_5_e => .setBit 5 (.reg .e)
  | .set_5_h => .setBit 5 (.reg .h)
  | .set_5_l => .setBit 5 (.reg .l)
  | .set_5_hlInd => .setBit 5 .atHl
  | .set_5_a => .setBit 5 (.reg .a)
  | .set_6_b => .setBit 6 (.reg .b)
  | .set_6_c => .setBit 6 (.reg .c)
  | .set_6_d => .setBit 6 (.reg .d)
  | .set_6_e => .setBit 6 (.reg .e)
  | .set_6_h => .setBit 6 (.reg .h)
  | .set_6_l => .setBit 6 (.reg .l)
  | .set_6_hlInd => .setBit 6 .atHl
  | .set_6_a => .setBit 6 (.reg .a)
  | .set_7_b => .setBit 7 (.reg .b)
  | .set_7_c => .setBit 7 (.reg .c)
  | .set_7_d => .setBit 7 (.reg .d)
  | .set_7_e => .setBit 7 (.reg .e)
  | .set_7_h => .setBit 7 (.reg .h)
  | .set_7_l => .setBit 7 (.reg .l)
  | .set_7_hlInd => .setBit 7 .atHl
  | .set_7_a => .setBit 7 (.reg .a)
  | .unimplemented op => .unimplemented op

/-- The form of an A-ALU operation by its source (`41_alu.md` R105). -/
def aluForm (op : AluOp) (src : AluSource) : Form :=
  match src with
  | .operand x => .alu op x
  | .imm n => .aluImm op n

end Sys2Proof.Machine
end

