-- ==== Sys2Proof/Machine/Renderer.lean ====
section
/-! DEFINITION. The background renderer (`60_exceptions.md` R181 to R188): a pure function of memory that the host calls
between steps. It reads LCDC bits 3 and 4, BGP, one map byte and two tile bytes, and nothing else (R188; log 21). -/

namespace Sys2Proof.Machine

/-- LCDC, the memory byte 0xFF40 (`10_state.md` R31). -/
def State.lcdc (s : State) : Byte := s.readByte 0xFF40#16

/-- BGP, the memory byte 0xFF47 (`10_state.md` R32). -/
def State.bgp (s : State) : Byte := s.readByte 0xFF47#16

/-- The tile-map base LCDC bit 3 selects (R182). -/
def mapBase (lcdc : Byte) : Nat := if lcdc.getLsbD 3 then 0x9C00 else 0x9800

/-- `idx_addr`, the address of the map entry of a pixel (R182). -/
def mapAddress (lcdc : Byte) (x y : Nat) : Nat := mapBase lcdc + (y / 8) * 32 + x / 8

/-- `tile_addr`: an unsigned index from 0x8000 when LCDC bit 4 is set, a signed one from 0x9000 when it is clear (R183). -/
def tileAddress (lcdc index : Byte) : Nat :=
  if lcdc.getLsbD 4 then 0x8000 + index.toNat * 16
  else (0x9000 + index.toInt * 16).toNat

/-- The memory byte at a computed address. -/
def State.byteAt (s : State) (a : Nat) : Byte := s.readByte (BitVec.ofNat 16 a)

/-- The color id of a pixel: bit `7 - x % 8` of the row's second byte, then of its first (R184). -/
def State.colorId (s : State) (x y : Nat) : Nat :=
  let tile := tileAddress s.lcdc (s.byteAt (mapAddress s.lcdc x y))
  let row := (y % 8) * 2
  let bit := 7 - x % 8
  2 * ((s.byteAt (tile + row + 1)).getLsbD bit).toNat + ((s.byteAt (tile + row)).getLsbD bit).toNat

/-- `(bgp >> (color_id * 2)) & 0b11` (R185, `10_state.md` R32). -/
def shadeOf (bgp : Byte) (colorId : Nat) : Nat := (bgp.toNat >>> (colorId * 2)) % 4

/-- The 24-bit value of a shade, in a 32-bit word whose top byte is zero (R186, `90_conflicts.md` C5). -/
def pixelOfShade (shade : Nat) : BitVec 32 :=
  match shade with
  | 0 => 0x00FFFFFF#32
  | 1 => 0x00AAAAAA#32
  | 2 => 0x00555555#32
  | _ => 0x00000000#32

/-- The pixel at `(x, y)` of the frame (R182 to R186). -/
def State.pixel (s : State) (x y : Nat) : BitVec 32 :=
  pixelOfShade (shadeOf s.bgp (s.colorId x y))

/-- `getPixel(x, y)`, with the host's signed coordinates; outside the 160 x 144 frame it is refused (R181, R187). -/
def getPixel (s : State) (x y : Int) : Except Refusal (BitVec 32) :=
  if 0 ≤ x ∧ x < 160 ∧ 0 ≤ y ∧ y < 144 then .ok (s.pixel x.toNat y.toNat)
  else .error .pixelOutsideFrame

/-- The pixel buffer of one frame: 144 rows of 160 pixels (R181). It is the host's, not state (`10_state.md` R37). -/
abbrev Frame := List (List (BitVec 32))

/-- The frame a host builds by calling `getPixel` for every pixel of the memory of that moment (R181, R188). -/
def State.frame (s : State) : Frame :=
  (List.range 144).map fun y => (List.range 160).map fun x => s.pixel x y

end Sys2Proof.Machine
end

