-- ==== Sys2Proof/Machine/HostInterface.lean ====
section
/-! DEFINITION. The host interface of the core (`60_exceptions.md` R189, R190): loading a ROM (`70_reset_and_hazards.md` R194,
R195), one host frame, and the outer loop that QUIT and ESCAPE end. `init` is `State.reset`, `cycle()` is `step`, `getPixel` is
in `Machine/Renderer.lean`. The functions that step are given `fuel`, a bound on the steps of one batch; running out of it is an
answer of its own (log 22). -/

namespace Sys2Proof.Machine

/-- `load(rom)`: the image's bytes copied to mem[0..romSize-1], over whatever is there; an image of more than 65 536 bytes is
refused as InvalidROMSize (`70_reset_and_hazards.md` R194, R195). -/
def loadRom (rom : List Byte) (s : State) : Except Refusal State :=
  if rom.length ≤ 65536 then .ok (s.writeBytes 0#16 rom) else .error .invalidRomSize

/-- The start of a run: `init`, then `load` (`70_reset_and_hazards.md` R194, R197; log 23). An absent image is refused as
InvalidROM (R195). -/
def launch (image : Option (List Byte)) : Except Refusal State :=
  match image with
  | none => .error .invalidRom
  | some rom => loadRom rom State.reset

/-- How a batch of steps ends. -/
inductive BatchEnd where
  /-- the cycle counter has reached the batch's target -/
  | complete (s : State)
  /-- the run has ended: the fault mark is set and no further step is taken (R173, R190) -/
  | ended (s : State)
  /-- the bound on the steps is used up and the batch is not over (log 22) -/
  | unfinished (s : State)
  deriving DecidableEq, Repr

/-- Whether a batch is over in a state, and if it is not, how it goes on. The fault is tested first (R168, R172). -/
def batchOr (target : Nat) (s : State) (goOn : BatchEnd) : BatchEnd :=
  if s.fault.isSome then .ended s
  else if target ≤ s.cycles then .complete s
  else goOn

/-- Steps until the cycle counter reaches `target` or the run ends, at most `fuel` of them (log 22). -/
def pump (target : Nat) : Nat → State → BatchEnd
  | 0, s => batchOr target s (.unfinished s)
  | fuel + 1, s =>
    batchOr target s
      (match step s with
        | .next t => pump target fuel t
        | .fault _ => .ended s
        | .refused _ => .ended s)

/-- "pump the CPU for a batch of cycles": `CYCLES_PER_FRAME` T-cycles (R189; log 22). -/
def hostBatch (fuel : Nat) (s : State) : BatchEnd :=
  pump (s.cycles + Config.cyclesPerFrame) fuel s

/-- One host frame: "pump the CPU for a batch of cycles, resolve the 160×144 pixel buffer, hand it to the host backend" (R189).
The buffer reflects memory after the last step of the batch (R188); a batch that does not complete hands over none. -/
def hostFrame (fuel : Nat) (s : State) : BatchEnd × List Frame :=
  match hostBatch fuel s with
  | .complete t => (.complete t, [t.frame])
  | .ended t => (.ended t, [])
  | .unfinished t => (.unfinished t, [])

/-- What the host does at one turn of its outer loop (R189; log 26). -/
inductive HostTurn where
  /-- the next host frame -/
  | frame
  /-- the QUIT event -/
  | quit
  /-- the ESCAPE key -/
  | escape
  deriving DecidableEq, Repr

/-- Where the outer loop stands. -/
inductive LoopStatus where
  /-- every turn so far was a frame; the loop goes on -/
  | running
  /-- QUIT or ESCAPE has ended the loop (R189, R190) -/
  | quit
  /-- a set fault mark has ended the run (R173, R190) -/
  | faulted
  /-- a batch has used up its bound (log 22) -/
  | unfinished
  deriving DecidableEq, Repr

/-- The outer loop after some turns: the core's state, the frames handed to the host backend, oldest first, and where the loop
stands. -/
structure HostRun where
  core : State
  frames : List Frame
  status : LoopStatus
  deriving DecidableEq, Repr

/-- The outer loop over the host's turns. QUIT and ESCAPE "both terminate the outer loop": the turns after them are not taken,
and the core takes no step (R189). -/
def hostLoop (fuel : Nat) : List HostTurn → State → HostRun
  | [], s => { core := s, frames := [], status := .running }
  | .quit :: _, s => { core := s, frames := [], status := .quit }
  | .escape :: _, s => { core := s, frames := [], status := .quit }
  | .frame :: turns, s =>
    match hostFrame fuel s with
    | (.complete t, shown) =>
      let rest := hostLoop fuel turns t
      { rest with frames := shown ++ rest.frames }
    | (.ended t, shown) => { core := t, frames := shown, status := .faulted }
    | (.unfinished t, shown) => { core := t, frames := shown, status := .unfinished }

/-- A whole run: init, the load of the image, the outer loop (R189, R190; `70_reset_and_hazards.md` R197). -/
def hostRun (fuel : Nat) (image : Option (List Byte)) (turns : List HostTurn) : Except Refusal HostRun :=
  match launch image with
  | .ok s => .ok (hostLoop fuel turns s)
  | .error reason => .error reason

end Sys2Proof.Machine
end

