-- ==== Sys2Proof/Safety.lean ====
section
/-! DEFINITION. The terms statements are written in: the invariants of a run, what a program can observe, and, for every
instruction, what it may change: registers, flags (the table of `10_state.md` R21), the stored bytes, the cost. -/

namespace Sys2Proof.Machine

/-- Bits 3..0 of F are zero (`10_state.md` R19). -/
abbrev State.nibbleZero (s : State) : Prop := s.f &&& 0x0F#8 = 0#8

/-- The invariant of every run: the low nibble of F is zero (`10_state.md` R19) and memory is in its canonical form (log 15). -/
abbrev State.Inv (s : State) : Prop := s.nibbleZero ∧ s.mem.wf

/-- The part of a state a program can observe: the registers, F, SP, PC and memory; the rest blanked (`10_state.md` R35). -/
def State.programView (s : State) : State :=
  { s with ime := false, halt := false, cycles := 0, unimpl := none, fault := none, draws := 0 }

/-- `t` has these four flags. -/
abbrev State.HasFlags (t : State) (z n h c : Bool) : Prop :=
  t.flag .z = z ∧ t.flag .n = n ∧ t.flag .h = h ∧ t.flag .c = c

/-- The instruction `f` is encoded as `bytes`, and its execution takes `s` to `t`. -/
abbrev Runs (f : Form) (bytes : List Byte) (s t : State) : Prop :=
  encode f.instr = bytes ∧ exec f.instr s = .next t

/-- The cells of a pair `r16`; SP is no cell. -/
def Reg16.cells (p : Reg16) : List Reg8 := p.pick [.b, .c] [.d, .e] [.h, .l] []

/-- The general registers of a pair `r16stk`; F is treated with the flags. -/
def StackPair.cells (p : StackPair) : List Reg8 := p.pick [.b, .c] [.d, .e] [.h, .l] [.a]

/-- Whether a pair `r16` is SP. -/
def Reg16.isSp (p : Reg16) : Bool := p.pick false false false true

/-- The register an operand `r8` is, if it is one. -/
def Operand8.cells : Operand8 → List Reg8
  | .reg r => [r]
  | .atHl => []

/-- The general registers an instruction may write: its destination and, for the stepping loads, HL. -/
def Form.registers : Form → List Reg8
  | .ldRegReg dst _ => [dst]
  | .ldRegImm dst _ => [dst]
  | .ldRegHl dst => [dst]
  | .ldHlReg _ => []
  | .ldHlImm _ => []
  | .ldABc => [.a]
  | .ldADe => [.a]
  | .ldBcA => []
  | .ldDeA => []
  | .ldAAbs _ => [.a]
  | .ldHlIncA => [.h, .l]
  | .ldHlDecA => [.h, .l]
  | .ldAHlInc => [.a, .h, .l]
  | .ldAHlDec => [.a, .h, .l]
  | .ldHighA _ => []
  | .ldAHigh _ => [.a]
  | .ldHighCA => []
  | .ldAHighC => [.a]
  | .ldAbsA _ => []
  | .ldPairImm p _ => p.cells
  | .ldAbsSp _ => []
  | .ldSpHl => []
  | .ldHlSpOffset _ => [.h, .l]
  | .push _ => []
  | .pop p => p.cells
  | .alu op _ => if op.writesA then [.a] else []
  | .aluImm op _ => if op.writesA then [.a] else []
  | .incByte x => x.cells
  | .decByte x => x.cells
  | .incPair p => p.cells
  | .decPair p => p.cells
  | .addHl _ => [.h, .l]
  | .addSp _ => []
  | .jp _ => []
  | .jpIf _ _ => []
  | .jpHl => []
  | .jr _ => []
  | .jrIf _ _ => []
  | .call _ => []
  | .callIf _ _ => []
  | .ret => []
  | .retIf _ => []
  | .reti => []
  | .rst _ => []
  | .rlca => [.a]
  | .rrca => [.a]
  | .rla => [.a]
  | .rra => [.a]
  | .daa => [.a]
  | .cpl => [.a]
  | .scf => []
  | .ccf => []
  | .nop => []
  | .stop => []
  | .halt => []
  | .di => []
  | .ei => []
  | .unimplemented _ => []
  | .rotate _ x => x.cells
  | .testBit _ _ => []
  | .resetBit _ x => x.cells
  | .setBit _ x => x.cells

/-- Whether an instruction may write SP: the SP loads and arithmetic, and the stack instructions. -/
def Form.writesSp : Form → Bool
  | .ldRegReg _ _ => false
  | .ldRegImm _ _ => false
  | .ldRegHl _ => false
  | .ldHlReg _ => false
  | .ldHlImm _ => false
  | .ldABc => false
  | .ldADe => false
  | .ldBcA => false
  | .ldDeA => false
  | .ldAAbs _ => false
  | .ldHlIncA => false
  | .ldHlDecA => false
  | .ldAHlInc => false
  | .ldAHlDec => false
  | .ldHighA _ => false
  | .ldAHigh _ => false
  | .ldHighCA => false
  | .ldAHighC => false
  | .ldAbsA _ => false
  | .ldPairImm p _ => p.isSp
  | .ldAbsSp _ => false
  | .ldSpHl => true
  | .ldHlSpOffset _ => false
  | .push _ => true
  | .pop _ => true
  | .alu _ _ => false
  | .aluImm _ _ => false
  | .incByte _ => false
  | .decByte _ => false
  | .incPair p => p.isSp
  | .decPair p => p.isSp
  | .addHl _ => false
  | .addSp _ => true
  | .jp _ => false
  | .jpIf _ _ => false
  | .jpHl => false
  | .jr _ => false
  | .jrIf _ _ => false
  | .call _ => true
  | .callIf _ _ => true
  | .ret => true
  | .retIf _ => true
  | .reti => true
  | .rst _ => true
  | .rlca => false
  | .rrca => false
  | .rla => false
  | .rra => false
  | .daa => false
  | .cpl => false
  | .scf => false
  | .ccf => false
  | .nop => false
  | .stop => false
  | .halt => false
  | .di => false
  | .ei => false
  | .unimplemented _ => false
  | .rotate _ _ => false
  | .testBit _ _ => false
  | .resetBit _ _ => false
  | .setBit _ _ => false

/-- Whether an instruction is a control transfer, one that may write PC (`42_control.md` R126 to R137). -/
def Form.transfers : Form → Bool
  | .ldRegReg _ _ => false
  | .ldRegImm _ _ => false
  | .ldRegHl _ => false
  | .ldHlReg _ => false
  | .ldHlImm _ => false
  | .ldABc => false
  | .ldADe => false
  | .ldBcA => false
  | .ldDeA => false
  | .ldAAbs _ => false
  | .ldHlIncA => false
  | .ldHlDecA => false
  | .ldAHlInc => false
  | .ldAHlDec => false
  | .ldHighA _ => false
  | .ldAHigh _ => false
  | .ldHighCA => false
  | .ldAHighC => false
  | .ldAbsA _ => false
  | .ldPairImm _ _ => false
  | .ldAbsSp _ => false
  | .ldSpHl => false
  | .ldHlSpOffset _ => false
  | .push _ => false
  | .pop _ => false
  | .alu _ _ => false
  | .aluImm _ _ => false
  | .incByte _ => false
  | .decByte _ => false
  | .incPair _ => false
  | .decPair _ => false
  | .addHl _ => false
  | .addSp _ => false
  | .jp _ => true
  | .jpIf _ _ => true
  | .jpHl => true
  | .jr _ => true
  | .jrIf _ _ => true
  | .call _ => true
  | .callIf _ _ => true
  | .ret => true
  | .retIf _ => true
  | .reti => true
  | .rst _ => true
  | .rlca => false
  | .rrca => false
  | .rla => false
  | .rra => false
  | .daa => false
  | .cpl => false
  | .scf => false
  | .ccf => false
  | .nop => false
  | .stop => false
  | .halt => false
  | .di => false
  | .ei => false
  | .unimplemented _ => false
  | .rotate _ _ => false
  | .testBit _ _ => false
  | .resetBit _ _ => false
  | .setBit _ _ => false

/-- What the table of `10_state.md` R21 says of one flag: `-`, `0`, `1` or `*`. -/
inductive FlagEffect where
  | unchanged
  | zero
  | one
  | written
  deriving DecidableEq, Repr

/-- One row of the table: Z, N, H, C. -/
def flagRow (z n h c : FlagEffect) : Flag → FlagEffect
  | .z => z
  | .n => n
  | .h => h
  | .c => c

/-- The row of an A-ALU operation (`10_state.md` R21). -/
def AluOp.flagEffect : AluOp → Flag → FlagEffect
  | .add | .adc => flagRow .written .zero .written .written
  | .sub | .sbc | .cp => flagRow .written .one .written .written
  | .and => flagRow .written .zero .one .zero
  | .or | .xor => flagRow .written .zero .zero .zero

/-- The row of a CB rotate or shift (`10_state.md` R21). -/
def RotateOp.flagEffect (op : RotateOp) : Flag → FlagEffect :=
  if op = .swap then flagRow .written .zero .zero .zero else flagRow .written .zero .zero .written

/-- POP AF writes every flag, the other POPs none (`10_state.md` R21). -/
def StackPair.flagEffect (p : StackPair) : Flag → FlagEffect :=
  if p = .af then flagRow .written .written .written .written else flagRow .unchanged .unchanged .unchanged .unchanged

/-- The table of which instruction writes which flag (`10_state.md` R21). -/
def Form.flagEffect : Form → Flag → FlagEffect
  | .ldRegReg _ _ => flagRow .unchanged .unchanged .unchanged .unchanged
  | .ldRegImm _ _ => flagRow .unchanged .unchanged .unchanged .unchanged
  | .ldRegHl _ => flagRow .unchanged .unchanged .unchanged .unchanged
  | .ldHlReg _ => flagRow .unchanged .unchanged .unchanged .unchanged
  | .ldHlImm _ => flagRow .unchanged .unchanged .unchanged .unchanged
  | .ldABc => flagRow .unchanged .unchanged .unchanged .unchanged
  | .ldADe => flagRow .unchanged .unchanged .unchanged .unchanged
  | .ldBcA => flagRow .unchanged .unchanged .unchanged .unchanged
  | .ldDeA => flagRow .unchanged .unchanged .unchanged .unchanged
  | .ldAAbs _ => flagRow .unchanged .unchanged .unchanged .unchanged
  | .ldHlIncA => flagRow .unchanged .unchanged .unchanged .unchanged
  | .ldHlDecA => flagRow .unchanged .unchanged .unchanged .unchanged
  | .ldAHlInc => flagRow .unchanged .unchanged .unchanged .unchanged
  | .ldAHlDec => flagRow .unchanged .unchanged .unchanged .unchanged
  | .ldHighA _ => flagRow .unchanged .unchanged .unchanged .unchanged
  | .ldAHigh _ => flagRow .unchanged .unchanged .unchanged .unchanged
  | .ldHighCA => flagRow .unchanged .unchanged .unchanged .unchanged
  | .ldAHighC => flagRow .unchanged .unchanged .unchanged .unchanged
  | .ldAbsA _ => flagRow .unchanged .unchanged .unchanged .unchanged
  | .ldPairImm _ _ => flagRow .unchanged .unchanged .unchanged .unchanged
  | .ldAbsSp _ => flagRow .unchanged .unchanged .unchanged .unchanged
  | .ldSpHl => flagRow .unchanged .unchanged .unchanged .unchanged
  | .ldHlSpOffset _ => flagRow .zero .zero .written .written
  | .push _ => flagRow .unchanged .unchanged .unchanged .unchanged
  | .pop p => p.flagEffect
  | .alu op _ => op.flagEffect
  | .aluImm op _ => op.flagEffect
  | .incByte _ => flagRow .written .zero .written .unchanged
  | .decByte _ => flagRow .written .one .written .unchanged
  | .incPair _ => flagRow .unchanged .unchanged .unchanged .unchanged
  | .decPair _ => flagRow .unchanged .unchanged .unchanged .unchanged
  | .addHl _ => flagRow .unchanged .zero .written .written
  | .addSp _ => flagRow .zero .zero .written .written
  | .jp _ => flagRow .unchanged .unchanged .unchanged .unchanged
  | .jpIf _ _ => flagRow .unchanged .unchanged .unchanged .unchanged
  | .jpHl => flagRow .unchanged .unchanged .unchanged .unchanged
  | .jr _ => flagRow .unchanged .unchanged .unchanged .unchanged
  | .jrIf _ _ => flagRow .unchanged .unchanged .unchanged .unchanged
  | .call _ => flagRow .unchanged .unchanged .unchanged .unchanged
  | .callIf _ _ => flagRow .unchanged .unchanged .unchanged .unchanged
  | .ret => flagRow .unchanged .unchanged .unchanged .unchanged
  | .retIf _ => flagRow .unchanged .unchanged .unchanged .unchanged
  | .reti => flagRow .unchanged .unchanged .unchanged .unchanged
  | .rst _ => flagRow .unchanged .unchanged .unchanged .unchanged
  | .rlca => flagRow .zero .zero .zero .written
  | .rrca => flagRow .zero .zero .zero .written
  | .rla => flagRow .zero .zero .zero .written
  | .rra => flagRow .zero .zero .zero .written
  | .daa => flagRow .written .unchanged .zero .written
  | .cpl => flagRow .unchanged .one .one .unchanged
  | .scf => flagRow .unchanged .zero .zero .one
  | .ccf => flagRow .unchanged .zero .zero .written
  | .nop => flagRow .unchanged .unchanged .unchanged .unchanged
  | .stop => flagRow .unchanged .unchanged .unchanged .unchanged
  | .halt => flagRow .unchanged .unchanged .unchanged .unchanged
  | .di => flagRow .unchanged .unchanged .unchanged .unchanged
  | .ei => flagRow .unchanged .unchanged .unchanged .unchanged
  | .unimplemented _ => flagRow .unchanged .unchanged .unchanged .unchanged
  | .rotate op _ => op.flagEffect
  | .testBit _ _ => flagRow .written .zero .one .unchanged
  | .resetBit _ _ => flagRow .unchanged .unchanged .unchanged .unchanged
  | .setBit _ _ => flagRow .unchanged .unchanged .unchanged .unchanged

/-- The two bytes `write_word` stores to at `a` (`20_memory.md` R46). -/
def wordSlots (a : Word) : List Word := [a, a + 1#16]

/-- The byte an operand `r8` stores to, if it is (HL). -/
def Operand8.stored (x : Operand8) (s : State) : List Word :=
  match x with
  | .reg _ => []
  | .atHl => [s.hl]

/-- Every address an instruction stores to, computed from the state it is executed in. -/
def Form.stored (f : Form) (s : State) : List Word :=
  match f with
  | .ldRegReg _ _ => []
  | .ldRegImm _ _ => []
  | .ldRegHl _ => []
  | .ldHlReg _ => [s.hl]
  | .ldHlImm _ => [s.hl]
  | .ldABc => []
  | .ldADe => []
  | .ldBcA => [s.bc]
  | .ldDeA => [s.de]
  | .ldAAbs _ => []
  | .ldHlIncA => [s.hl]
  | .ldHlDecA => [s.hl]
  | .ldAHlInc => []
  | .ldAHlDec => []
  | .ldHighA n => [highPage n]
  | .ldAHigh _ => []
  | .ldHighCA => [highPage s.c]
  | .ldAHighC => []
  | .ldAbsA nn => [nn]
  | .ldPairImm _ _ => []
  | .ldAbsSp nn => wordSlots nn
  | .ldSpHl => []
  | .ldHlSpOffset _ => []
  | .push _ => wordSlots (s.sp - 2#16)
  | .pop _ => []
  | .alu _ _ => []
  | .aluImm _ _ => []
  | .incByte x => x.stored s
  | .decByte x => x.stored s
  | .incPair _ => []
  | .decPair _ => []
  | .addHl _ => []
  | .addSp _ => []
  | .jp _ => []
  | .jpIf _ _ => []
  | .jpHl => []
  | .jr _ => []
  | .jrIf _ _ => []
  | .call _ => wordSlots (s.sp - 2#16)
  | .callIf cc _ => if s.cond cc then wordSlots (s.sp - 2#16) else []
  | .ret => []
  | .retIf _ => []
  | .reti => []
  | .rst _ => wordSlots (s.sp - 2#16)
  | .rlca => []
  | .rrca => []
  | .rla => []
  | .rra => []
  | .daa => []
  | .cpl => []
  | .scf => []
  | .ccf => []
  | .nop => []
  | .stop => []
  | .halt => []
  | .di => []
  | .ei => []
  | .unimplemented _ => []
  | .rotate _ x => x.stored s
  | .testBit _ _ => []
  | .resetBit _ x => x.stored s
  | .setBit _ x => x.stored s

/-- Whether an instruction takes its branch: a conditional one when its condition holds (`70_reset_and_hazards.md` R203). -/
def Form.taken (f : Form) (s : State) : Bool :=
  match f with
  | .ldRegReg _ _ => true
  | .ldRegImm _ _ => true
  | .ldRegHl _ => true
  | .ldHlReg _ => true
  | .ldHlImm _ => true
  | .ldABc => true
  | .ldADe => true
  | .ldBcA => true
  | .ldDeA => true
  | .ldAAbs _ => true
  | .ldHlIncA => true
  | .ldHlDecA => true
  | .ldAHlInc => true
  | .ldAHlDec => true
  | .ldHighA _ => true
  | .ldAHigh _ => true
  | .ldHighCA => true
  | .ldAHighC => true
  | .ldAbsA _ => true
  | .ldPairImm _ _ => true
  | .ldAbsSp _ => true
  | .ldSpHl => true
  | .ldHlSpOffset _ => true
  | .push _ => true
  | .pop _ => true
  | .alu _ _ => true
  | .aluImm _ _ => true
  | .incByte _ => true
  | .decByte _ => true
  | .incPair _ => true
  | .decPair _ => true
  | .addHl _ => true
  | .addSp _ => true
  | .jp _ => true
  | .jpIf cc _ => s.cond cc
  | .jpHl => true
  | .jr _ => true
  | .jrIf cc _ => s.cond cc
  | .call _ => true
  | .callIf cc _ => s.cond cc
  | .ret => true
  | .retIf cc => s.cond cc
  | .reti => true
  | .rst _ => true
  | .rlca => true
  | .rrca => true
  | .rla => true
  | .rra => true
  | .daa => true
  | .cpl => true
  | .scf => true
  | .ccf => true
  | .nop => true
  | .stop => true
  | .halt => true
  | .di => true
  | .ei => true
  | .unimplemented _ => true
  | .rotate _ _ => true
  | .testBit _ _ => true
  | .resetBit _ _ => true
  | .setBit _ _ => true

/-- What R207 charges an instruction in a state. -/
def Form.charge (f : Form) (s : State) : Nat :=
  if f.taken s then (tableCost f.instr).taken else (tableCost f.instr).notTaken

/-- A rotate or shift of `v` with the carry `c` (0 or 1) in exact arithmetic: the result and the carry out (`44_cb_prefix.md`
R154 to R161). -/
def RotateOp.arithmetic (op : RotateOp) (v c : Nat) : Nat × Nat :=
  match op with
  | .rlc => (v * 2 % 256 + v / 128, v / 128)
  | .rrc => (v / 2 + v % 2 * 128, v % 2)
  | .rl => (v * 2 % 256 + c, v / 128)
  | .rr => (v / 2 + c * 128, v % 2)
  | .sla => (v * 2 % 256, v / 128)
  | .sra => (v / 2 + v / 128 * 128, v % 2)
  | .swap => (v % 16 * 16 + v / 16, 0)
  | .srl => (v / 2, v % 2)

/-- The adjustment DAA adds, before truncation (`43_misc.md` R142). -/
def daaAdjustment (a : Nat) (n h c : Bool) : Int :=
  if n then (if c then -0x60 else 0) + (if h then -0x06 else 0)
  else (if c = true ∨ a > 0x99 then 0x60 else 0) + (if h = true ∨ a % 16 > 0x09 then 0x06 else 0)

/-- Two decimal digits as a BCD byte (`00_scope.md` R14). -/
def bcd (n : Nat) : Byte := BitVec.ofNat 8 (n / 10 * 16 + n % 10)

end Sys2Proof.Machine
end

