-- ==== Sys2Proof/Certificates/Slice0/Obligations.lean ====
section
/-! DEFINITION. The statements for the provers. Each docstring says which rule of `spec/` it formalises. Statements about one
instruction rule give the whole next state, so they say what changes and that nothing else does; the frames of all
instructions are also stated once for every form. -/

open Sys2Proof Sys2Proof.Machine

/-! ## Encoding -/

/-- Every well-formed instruction is decoded from its encoding, and the bytes after it are left over (`30_encoding.md` R61, R64,
R67, R70). The bit patterns are the spec's own general knowledge (log 20). -/
def Obligations.DecodeInvertsEncode : Prop :=
  ∀ (i : Instr) (rest : List Byte), i.WellFormed → decode (encode i ++ rest) = .ok (i, rest)

/-- Each sequence of bytes has one meaning: what is decoded is well formed, and its encoding is the bytes that were consumed
(`30_encoding.md` R61, R66, R70). -/
def Obligations.EncodeInvertsDecode : Prop :=
  ∀ (bytes : List Byte) (i : Instr) (rest : List Byte),
    decode bytes = .ok (i, rest) → i.WellFormed ∧ encode i ++ rest = bytes

/-- The encoding of every instruction is the one assembled from its operand fields (`30_encoding.md` R57 to R63, R65, R67). -/
def Obligations.EncodingFollowsFields : Prop :=
  ∀ f : Form, encode f.instr = f.bytes

/-- Every constructor of `Instr` is exactly one instruction rule with its operands, so a statement over all forms is one over all
instructions (`30_encoding.md` R72). -/
def Obligations.FormsAreTheInstructions : Prop :=
  (∀ i : Instr, (formOf i).instr = i) ∧ ∀ f : Form, formOf f.instr = f

/-- The encodings the source gives outright decode to the instructions it names (`30_encoding.md` R74). -/
def Obligations.SourceEncodingsDecode : Prop :=
  decode [0x3E#8, 0x42#8] = .ok (.ld_a_n8 0x42#8, []) ∧
  decode [0x06#8, 0x13#8] = .ok (.ld_b_n8 0x13#8, []) ∧
  decode [0xAF#8] = .ok (.xor_a, []) ∧
  decode [0xC6#8, 0xFF#8] = .ok (.add_a_n8 0xFF#8, []) ∧
  decode [0xF5#8] = .ok (.push_af, []) ∧
  decode [0xF1#8] = .ok (.pop_af, []) ∧
  decode [0x18#8, 0xFE#8] = .ok (.jr_e 0xFE#8, []) ∧
  decode [0x76#8] = .ok (.halt, []) ∧
  decode [0x08#8, 0x00#8, 0xC0#8] = .ok (.ld_nnInd_sp 0xC000#16, []) ∧
  decode [0x70#8] = .ok (.ld_hlInd_b, []) ∧
  decode [0x77#8] = .ok (.ld_hlInd_a, []) ∧
  decode [0xCB#8, 0x2E#8] = .ok (.sra_hlInd, []) ∧
  decode [0xCB#8, 0x3E#8] = .ok (.srl_hlInd, [])

/-- No byte value is illegal to the decoder: three bytes always decode, and to an UNIMPLEMENTED instruction exactly when the
first is one of the eleven (`30_encoding.md` R66, R68). -/
def Obligations.EveryByteDecodes : Prop :=
  ∀ (b0 b1 b2 : Byte) (rest : List Byte), ∃ (i : Instr) (tail : List Byte),
    decode (b0 :: b1 :: b2 :: rest) = .ok (i, tail) ∧
    (i = .unimplemented b0 ↔ b0 ∈ unimplementedOpcodes)

/-! ## Reset and invariants -/

/-- The state after init (`10_state.md` R36, `70_reset_and_hazards.md` R193, R194). `unimpl` and `fault` are none by the spec's
decisions D8 and D6. -/
def Obligations.ResetInstallsBootState : Prop :=
  let s := State.reset
  s.pc = 0x0100#16 ∧ s.sp = 0xFFFE#16 ∧
  s.a = 0x01#8 ∧ s.f = 0xB0#8 ∧ s.b = 0x00#8 ∧ s.c = 0x13#8 ∧ s.d = 0x00#8 ∧ s.e = 0xD8#8 ∧ s.h = 0x01#8 ∧ s.l = 0x4D#8 ∧
  s.af = 0x01B0#16 ∧ s.bc = 0x0013#16 ∧ s.de = 0x00D8#16 ∧ s.hl = 0x014D#16 ∧
  s.HasFlags true false true true ∧
  (∀ a : Word, s.readByte a = if a = 0xFF40#16 then 0x91#8 else if a = 0xFF47#16 then 0xE4#8 else 0x00#8) ∧
  s.cycles = 0 ∧ s.ime = false ∧ s.halt = false ∧ s.unimpl = none ∧ s.fault = none

/-- The invariant holds after init. -/
def Obligations.ResetMeetsTheInvariant : Prop :=
  State.reset.Inv

/-- The flags are bits 7 to 4 of F; the low nibble of F is zero after init, and every step from any state that has it zero keeps
it so (`10_state.md` R19). -/
def Obligations.StepKeepsFlagNibbleZero : Prop :=
  State.reset.nibbleZero ∧
  (∀ s : State, s.HasFlags (s.f.getLsbD 7) (s.f.getLsbD 6) (s.f.getLsbD 5) (s.f.getLsbD 4)) ∧
  ∀ s t : State, s.nibbleZero → step s = .next t → t.nibbleZero

/-- Every step keeps memory in its canonical form: addresses rising and below 65 536, no byte listed with its init value. The
form is the model's own (log 15). -/
def Obligations.StepKeepsMemoryCanonical : Prop :=
  ∀ s t : State, s.mem.wf → step s = .next t → t.mem.wf

/-- Two canonical memories that read the same everywhere are equal, so equality of states compares memories by what they hold
(log 15). -/
def Obligations.CanonicalMemoryIsUnique : Prop :=
  ∀ m n : Memory, m.wf → n.wf → (∀ a : Word, m.read a = n.read a) → m = n

/-! ## The step -/

/-- When the bytes at PC, taken modulo 65 536, are the encoding of a well-formed instruction, the step is that instruction's
execution with PC moved past its bytes (`30_encoding.md` R56, `10_state.md` R22, `60_exceptions.md` R168). -/
def Obligations.StepRunsDecodedInstruction : Prop :=
  ∀ (s : State) (i : Instr), s.fault = none → s.halt = false → i.WellFormed →
    (∀ k (_ : k < (encode i).length), s.readByte (s.pc + BitVec.ofNat 16 k) = (encode i)[k]) →
    step s = exec i { s with pc := s.pc + BitVec.ofNat 16 (encode i).length }

/-- A step while HALT is set adds 4 T-cycles and changes nothing else (`60_exceptions.md` R168, `70_reset_and_hazards.md`
R204). -/
def Obligations.HaltedStepOnlyCounts : Prop :=
  ∀ s : State, s.fault = none → s.halt = true → step s = .next { s with cycles := s.cycles + 4 }

/-- A state whose fault mark is set takes no step, halted or not: the machine answers the fault (`60_exceptions.md` R168, R172,
R173; the outcome is the model's, log 3). -/
def Obligations.FaultedStateTakesNoStep : Prop :=
  ∀ (s : State) (op : Byte), s.fault = some (.unimplementedOpcode op) → step s = .fault (.unimplementedOpcode op)

/-- The machine steps exactly when its fault mark is clear: no instruction faults or refuses (`60_exceptions.md` R169, R173,
`00_scope.md` R12; log 3). -/
def Obligations.StepStopsOnlyAtFaultMark : Prop :=
  ∀ s : State, (∃ t, step s = .next t) ↔ s.fault = none

/-- Every instruction of the admitted set completes in every state, at the cost R207 prints for it, taken or not taken
(`70_reset_and_hazards.md` R202, R203, R205, R207). The starred costs are the spec's own general knowledge (log 5). -/
def Obligations.EveryInstructionCompletesAtTableCost : Prop :=
  ∀ (f : Form) (s : State), (∀ op, f ≠ .unimplemented op) →
    ∃ t, exec f.instr s = .next t ∧ t.cycles = s.cycles + f.charge s

/-- The cycle counter never decreases (`10_state.md` R26; a natural number by the spec's decision D10). -/
def Obligations.CyclesNeverDecrease : Prop :=
  ∀ s t : State, step s = .next t → s.cycles ≤ t.cycles

/-- Of the instructions only DI, EI and RETI write IME, reset clears it, and no instruction and no step reads it: changing it
changes nothing else of the outcome (`10_state.md` section 4). That EI has set it at the end of its own execution is the spec's
decision D12 (log 11). -/
def Obligations.ImeIsOnlyBookkeeping : Prop :=
  State.reset.ime = false ∧
  (∀ s : State, ∃ t, exec .di s = .next t ∧ t.ime = false) ∧
  (∀ s : State, ∃ t, exec .ei s = .next t ∧ t.ime = true) ∧
  (∀ s : State, ∃ t, exec .reti s = .next t ∧ t.ime = true) ∧
  (∀ (i : Instr) (s t : State), i ≠ .di → i ≠ .ei → i ≠ .reti → exec i s = .next t → t.ime = s.ime) ∧
  (∀ (i : Instr) (s t : State) (v : Bool), exec i s = .next t →
    ∃ t', exec i { s with ime := v } = .next t' ∧ { t' with ime := t.ime } = t) ∧
  (∀ (s t : State) (v : Bool), step s = .next t →
    ∃ t', step { s with ime := v } = .next t' ∧ { t' with ime := t.ime } = t)

/-- HALT is set only by HALT and cleared by nothing; `unimpl`, the fault mark and the model's draw counter are written only by
an UNIMPLEMENTED instruction (`10_state.md` R27, R28, R29; the spec's decisions D11, D8, D6). -/
def Obligations.HaltAndDiagnosticsFrame : Prop :=
  (∀ (i : Instr) (s t : State), exec i s = .next t → i ≠ .halt → t.halt = s.halt) ∧
  (∀ s : State, ∃ t, exec .halt s = .next t ∧ t.halt = true) ∧
  (∀ (i : Instr) (s t : State), exec i s = .next t → (∀ op, i ≠ .unimplemented op) →
    t.unimpl = s.unimpl ∧ t.fault = s.fault ∧ t.draws = s.draws) ∧
  (∀ s t : State, step s = .next t → s.halt = true → t = { s with cycles := t.cycles })

/-- A halted core is quiescent: any number of steps changes only the cycle counter, by 4 each (`60_exceptions.md` R180, R190,
`70_reset_and_hazards.md` R204). -/
def Obligations.HaltedCoreIsQuiescent : Prop :=
  ∀ (n : Nat) (s : State), s.fault = none → s.halt = true →
    Sys2Proof.core.run n s = .next { s with cycles := s.cycles + 4 * n }

/-- A program cannot observe IME, HALT, the cycle counter, `unimpl` or the fault mark: two states that differ only in those are
taken by every instruction to states that differ only in those (`10_state.md` R35). -/
def Obligations.ProgramCannotObserveBookkeeping : Prop :=
  ∀ (i : Instr) (s₁ s₂ : State), s₁.programView = s₂.programView →
    ∃ t₁ t₂, exec i s₁ = .next t₁ ∧ exec i s₂ = .next t₂ ∧ t₁.programView = t₂.programView

/-! ## Frames of all instructions -/

/-- Every instruction leaves every general register but its destinations as it was, SP unless it is one of the SP and stack
instructions, and PC, already past its bytes, unless it is a control transfer (rules R76 to R164). -/
def Obligations.FrameRegisters : Prop :=
  ∀ (f : Form) (s t : State), exec f.instr s = .next t →
    (∀ r, r ∉ f.registers → t.reg8 r = s.reg8 r) ∧
    (f.writesSp = false → t.sp = s.sp) ∧
    (f.transfers = false → t.pc = s.pc)

/-- Every instruction leaves the flags the table of `10_state.md` R21 does not give it as they were, forces those the table
forces, and leaves the low nibble of F as it was (POP AF clears it). The N and H entries of the rotates and the unnamed flags
of CPL, SCF and CCF are the spec's own (log 6, log 7). -/
def Obligations.FrameFlags : Prop :=
  ∀ (f : Form) (s t : State), exec f.instr s = .next t →
    (∀ x : Flag, match f.flagEffect x with
      | .unchanged => t.flag x = s.flag x
      | .zero => t.flag x = false
      | .one => t.flag x = true
      | .written => True) ∧
    (f ≠ .pop .af → t.f &&& 0x0F#8 = s.f &&& 0x0F#8) ∧
    (f = .pop .af → t.f &&& 0x0F#8 = 0#8)

/-- Every byte of memory outside the addresses an instruction stores to reads as before, and an instruction that stores nothing
leaves all of memory; the stored addresses are computed from the state the instruction is executed in (`20_memory.md` R44,
R46, R49). -/
def Obligations.FrameMemory : Prop :=
  ∀ (f : Form) (s t : State), exec f.instr s = .next t →
    ∀ a : Word, a ∉ f.stored s → t.readByte a = s.readByte a

/-! ## Registers, flags, memory and stack primitives -/

/-- The four pairs are `hi * 256 + lo` with the first-named register high, and a write of BC, DE or HL writes both cells and
nothing else; a write of AF obeys R18 (`10_state.md` R17, R18). -/
def Obligations.PairViewsFuseTwoCells : Prop :=
  ∀ (s : State) (v : Word),
    s.af.toNat = s.a.toNat * 256 + s.f.toNat ∧
    s.bc.toNat = s.b.toNat * 256 + s.c.toNat ∧
    s.de.toNat = s.d.toNat * 256 + s.e.toNat ∧
    s.hl.toNat = s.h.toNat * 256 + s.l.toNat ∧
    s.setBc v = { s with b := BitVec.ofNat 8 (v.toNat / 256), c := BitVec.ofNat 8 (v.toNat % 256) } ∧
    s.setDe v = { s with d := BitVec.ofNat 8 (v.toNat / 256), e := BitVec.ofNat 8 (v.toNat % 256) } ∧
    s.setHl v = { s with h := BitVec.ofNat 8 (v.toNat / 256), l := BitVec.ofNat 8 (v.toNat % 256) } ∧
    s.setAf v = { s with a := BitVec.ofNat 8 (v.toNat / 256), f := BitVec.ofNat 8 (v.toNat % 256 / 16 * 16) }

/-- Each register, and each pair of the field `r16`, is an independent plain cell: a read after a write of it gives the value
written, and a write of one register leaves the six others and everything else (`10_state.md` R16, R17, R23). -/
def Obligations.RegisterReadAfterWrite : Prop :=
  ∀ (s : State) (r r' : Reg8) (v : Byte) (p : Reg16) (w : Word),
    (s.setReg8 r v).reg8 r' = (if r' = r then v else s.reg8 r') ∧
    (s.setReg16 p w).reg16 p = w ∧
    { s.setReg8 r v with a := s.a, b := s.b, c := s.c, d := s.d, e := s.e, h := s.h, l := s.l } = s

/-- The flag primitives: a flag reads as it was last set, setting one disturbs none of the three others, the low nibble of F is
not written, and nothing but F is (`10_state.md` R19, R20). -/
def Obligations.FlagPrimitives : Prop :=
  ∀ (s : State) (x y : Flag) (v : Bool),
    (s.setFlag x v).flag y = (if y = x then v else s.flag y) ∧
    (s.setFlag x v).f &&& 0x0F#8 = s.f &&& 0x0F#8 ∧
    { s.setFlag x v with f := s.f } = s

/-- `hli()` and `hld()` return the current HL and step HL by one with 16-bit wrap, changing nothing else (`10_state.md` R24). -/
def Obligations.HliAndHldStepHl : Prop :=
  ∀ s : State,
    s.hli.1 = s.hl ∧ s.hli.2.hl.toNat = (s.hl.toNat + 1) % 65536 ∧ { s.hli.2 with h := s.h, l := s.l } = s ∧
    s.hld.1 = s.hl ∧ s.hld.2.hl.toNat = (s.hl.toNat + 65535) % 65536 ∧ { s.hld.2 with h := s.h, l := s.l } = s

/-- A byte reads as it was last written at any address, a write changes no other byte and no register (`20_memory.md` R43,
R44). -/
def Obligations.ByteReadAfterWrite : Prop :=
  ∀ (s : State) (a b : Word) (v : Byte),
    (s.writeByte a v).readByte b = (if b = a then v else s.readByte b) ∧
    { s.writeByte a v with mem := s.mem } = s

/-- Words are little-endian, the second address wraps modulo 65 536, and a word read after it is written is the value written
(`20_memory.md` R45, R46). -/
def Obligations.WordsAreLittleEndian : Prop :=
  (∀ (s : State) (a : Word),
    (s.readWord a).toNat = (s.readByte (BitVec.ofNat 16 (a.toNat + 1))).toNat * 256 + (s.readByte a).toNat) ∧
  (∀ s : State, (s.readWord 0xFFFF#16).toNat = (s.readByte 0x0000#16).toNat * 256 + (s.readByte 0xFFFF#16).toNat) ∧
  ∀ (s : State) (a v : Word),
    let t := s.writeWord a v
    t.readByte a = BitVec.ofNat 8 (v.toNat % 256) ∧
    t.readByte (BitVec.ofNat 16 (a.toNat + 1)) = BitVec.ofNat 8 (v.toNat / 256) ∧
    (∀ b : Word, b ≠ a → b ≠ BitVec.ofNat 16 (a.toNat + 1) → t.readByte b = s.readByte b) ∧
    { t with mem := s.mem } = s ∧
    t.readWord a = v

/-- `Push16` decrements SP by 2 and writes the low byte at the old SP - 2 and the high byte at the old SP - 1; `Pop16` reads the
word at SP and increments SP by 2; a pop right after a push returns the pushed value and leaves SP as it was; neither changes a
flag or anything else (`40_loads.md` R102, R103). -/
def Obligations.PushAndPopHelpers : Prop :=
  ∀ (s : State) (v : Word),
    let t := s.push16 v
    t.sp = s.sp - 2#16 ∧
    t.readByte (s.sp - 2#16) = BitVec.ofNat 8 (v.toNat % 256) ∧
    t.readByte (s.sp - 1#16) = BitVec.ofNat 8 (v.toNat / 256) ∧
    (∀ a : Word, a ≠ s.sp - 2#16 → a ≠ s.sp - 1#16 → t.readByte a = s.readByte a) ∧
    { t with sp := s.sp, mem := s.mem } = s ∧
    s.pop16 = (s.readWord s.sp, { s with sp := s.sp + 2#16 }) ∧
    t.pop16 = (v, { t with sp := s.sp })

/-- `sp_add`: the 16-bit sum with the signed offset, and the flags of an unsigned addition of the byte to the low byte of SP
(`41_alu.md` R120). -/
def Obligations.SpAddSumAndFlags : Prop :=
  ∀ (sp : Word) (e : Byte),
    ((spAdd sp e).value.toNat : Int) = ((sp.toNat : Int) + e.toInt) % 65536 ∧
    (spAdd sp e).h = decide (sp.toNat % 16 + e.toNat % 16 > 15) ∧
    (spAdd sp e).c = decide (sp.toNat % 256 + e.toNat % 256 > 255)

/-- The four conditions test Z or C as named, and read F only (`42_control.md` R125). -/
def Obligations.ConditionsTestZOrC : Prop :=
  ∀ s : State,
    (s.cond .nz = true ↔ s.f.getLsbD 7 = false) ∧
    (s.cond .z = true ↔ s.f.getLsbD 7 = true) ∧
    (s.cond .nc = true ↔ s.f.getLsbD 4 = false) ∧
    (s.cond .c = true ↔ s.f.getLsbD 4 = true) ∧
    ∀ (t : State) (cc : Cond), t.f = s.f → t.cond cc = s.cond cc

/-! ## Loads and stores -/

/-- `LD r,r'`, `LD r,n8`, `LD r,(HL)` and `LD (HL),r`: the 70 constructors of these four rules, whole (`40_loads.md` R76, R77,
R78, R79). -/
def Obligations.RegisterLoads : Prop :=
  ∀ (s : State) (dst src : Reg8) (n : Byte),
    Runs (.ldRegReg dst src) [opcode 1 dst.code src.code] s
      { s.setReg8 dst (s.reg8 src) with cycles := s.cycles + 4 } ∧
    Runs (.ldRegImm dst n) [opcode 0 dst.code 6, n] s
      { s.setReg8 dst n with cycles := s.cycles + 8 } ∧
    Runs (.ldRegHl dst) [opcode 1 dst.code 6] s
      { s.setReg8 dst (s.readByte s.hl) with cycles := s.cycles + 8 } ∧
    Runs (.ldHlReg src) [opcode 1 6 src.code] s
      { s.writeByte s.hl (s.reg8 src) with cycles := s.cycles + 8 }

/-- `LD A,(BC)`, `LD A,(DE)`, `LD (BC),A`, `LD (DE),A`, `LD (FF00+C),A` and `LD A,(FF00+C)` (`40_loads.md` R81 to R84, R92,
R93). Their costs are the spec's own general knowledge (log 5). -/
def Obligations.LoadsThroughRegisters : Prop :=
  ∀ s : State,
    Runs .ldABc [0x0A#8] s { s with a := s.readByte s.bc, cycles := s.cycles + 8 } ∧
    Runs .ldADe [0x1A#8] s { s with a := s.readByte s.de, cycles := s.cycles + 8 } ∧
    Runs .ldBcA [0x02#8] s { s.writeByte s.bc s.a with cycles := s.cycles + 8 } ∧
    Runs .ldDeA [0x12#8] s { s.writeByte s.de s.a with cycles := s.cycles + 8 } ∧
    Runs .ldHighCA [0xE2#8] s
      { s.writeByte (BitVec.ofNat 16 (0xFF00 + s.c.toNat)) s.a with cycles := s.cycles + 8 } ∧
    Runs .ldAHighC [0xF2#8] s
      { s with a := s.readByte (BitVec.ofNat 16 (0xFF00 + s.c.toNat)), cycles := s.cycles + 8 }

/-- `LD A,(nn)`, `LD (nn),A` and `LD rr,n16` (`40_loads.md` R85, R94, R95). -/
def Obligations.AbsoluteAndPairLoads : Prop :=
  ∀ (s : State) (p : Reg16) (nn : Word),
    Runs (.ldAAbs nn) [0xFA#8, loByte nn, hiByte nn] s { s with a := s.readByte nn, cycles := s.cycles + 16 } ∧
    Runs (.ldAbsA nn) [0xEA#8, loByte nn, hiByte nn] s { s.writeByte nn s.a with cycles := s.cycles + 16 } ∧
    Runs (.ldPairImm p nn) [opcodeQ 0 p.code 0 1, loByte nn, hiByte nn] s
      { s.setReg16 p nn with cycles := s.cycles + 12 }

/-- `LD (HL+),A`, `LD (HL-),A`, `LD A,(HL+)` and `LD A,(HL-)`: the access is at the old HL, and HL is stepped with wrap
(`40_loads.md` R86, R87, R88, R89). -/
def Obligations.SteppingLoads : Prop :=
  ∀ s : State,
    Runs .ldHlIncA [0x22#8] s
      { (s.writeByte s.hl s.a).setHl (BitVec.ofNat 16 (s.hl.toNat + 1)) with cycles := s.cycles + 8 } ∧
    Runs .ldHlDecA [0x32#8] s
      { (s.writeByte s.hl s.a).setHl (BitVec.ofNat 16 (s.hl.toNat + 65535)) with cycles := s.cycles + 8 } ∧
    Runs .ldAHlInc [0x2A#8] s
      { s.setHl (BitVec.ofNat 16 (s.hl.toNat + 1)) with a := s.readByte s.hl, cycles := s.cycles + 8 } ∧
    Runs .ldAHlDec [0x3A#8] s
      { s.setHl (BitVec.ofNat 16 (s.hl.toNat + 65535)) with a := s.readByte s.hl, cycles := s.cycles + 8 }

/-- `LD (HL),n8`, `LD (FF00+n),A` and `LD A,(FF00+n)` (`40_loads.md` R80, R90, R91). Their cost 12 is the spec's decision D17
(log 5). -/
def Obligations.HighPageLoads : Prop :=
  ∀ (s : State) (n : Byte),
    Runs (.ldHlImm n) [0x36#8, n] s { s.writeByte s.hl n with cycles := s.cycles + 12 } ∧
    Runs (.ldHighA n) [0xE0#8, n] s
      { s.writeByte (BitVec.ofNat 16 (0xFF00 + n.toNat)) s.a with cycles := s.cycles + 12 } ∧
    Runs (.ldAHigh n) [0xF0#8, n] s
      { s with a := s.readByte (BitVec.ofNat 16 (0xFF00 + n.toNat)), cycles := s.cycles + 12 }

/-- `LD (nn),SP`, `LD SP,HL`, `LD HL,SP+e` and `ADD SP,e` (`40_loads.md` R96, R97, R98, `41_alu.md` R119): the sums are modulo
65 536, Z and N are forced 0, H and C come from the low nibble and the low byte. The costs are the spec's own general knowledge
(log 5). -/
def Obligations.StackPointerArithmetic : Prop :=
  ∀ (s : State) (nn : Word) (e : Byte),
    let sum := BitVec.ofInt 16 ((s.sp.toNat : Int) + e.toInt)
    let h := decide (s.sp.toNat % 16 + e.toNat % 16 > 15)
    let c := decide (s.sp.toNat % 256 + e.toNat > 255)
    Runs (.ldAbsSp nn) [0x08#8, loByte nn, hiByte nn] s { s.writeWord nn s.sp with cycles := s.cycles + 20 } ∧
    Runs .ldSpHl [0xF9#8] s { s with sp := s.hl, cycles := s.cycles + 8 } ∧
    (∃ t, Runs (.ldHlSpOffset e) [0xF8#8, e] s t ∧ t.HasFlags false false h c ∧
      { t with f := s.f } = { s.setHl sum with cycles := s.cycles + 12 }) ∧
    (∃ t, Runs (.addSp e) [0xE8#8, e] s t ∧ t.HasFlags false false h c ∧
      { t with f := s.f } = { s with sp := sum, cycles := s.cycles + 16 })

/-- `PUSH rr`, `POP rr` and `POP AF`: POP AF writes the four flags from bits 7 to 4 of the popped low byte and leaves the low
nibble of F zero, whatever is on the stack (`40_loads.md` R99, R100, R101). -/
def Obligations.PushAndPop : Prop :=
  ∀ (s : State) (p : StackPair),
    Runs (.push p) [opcodeQ 3 p.code 0 5] s { s.push16 (s.stackPair p) with cycles := s.cycles + 16 } ∧
    (p ≠ .af → Runs (.pop p) [opcodeQ 3 p.code 0 1] s
      { s.setStackPair p (s.readWord s.sp) with sp := s.sp + 2#16, cycles := s.cycles + 12 }) ∧
    ∃ t, Runs (.pop .af) [0xF1#8] s t ∧
      t = { s with a := s.readByte (s.sp + 1#16), f := t.f, sp := s.sp + 2#16, cycles := s.cycles + 12 } ∧
      t.f = s.readByte s.sp &&& 0xF0#8 ∧
      t.HasFlags ((s.readByte s.sp).getLsbD 7) ((s.readByte s.sp).getLsbD 6) ((s.readByte s.sp).getLsbD 5)
        ((s.readByte s.sp).getLsbD 4)

/-! ## Arithmetic and logic -/

/-- ADD and ADC on every source, in exact arithmetic; ADD does not read the old carry (`41_alu.md` R105, R106, R107,
`90_conflicts.md` C17). The costs are the spec's own general knowledge (log 5). -/
def Obligations.AddAndAddWithCarry : Prop :=
  ∀ (s : State) (src : AluSource),
    let a := s.a.toNat
    let v := (s.source src).toNat
    let c := (s.flag .c).toNat
    (∃ t, exec (aluForm .add src).instr s = .next t ∧ t.a.toNat = (a + v) % 256 ∧
      t.HasFlags (decide ((a + v) % 256 = 0)) false (decide (a % 16 + v % 16 > 15)) (decide (a + v > 255)) ∧
      { t with a := s.a, f := s.f } = { s with cycles := s.cycles + src.cost }) ∧
    (∃ t, exec (aluForm .adc src).instr s = .next t ∧ t.a.toNat = (a + v + c) % 256 ∧
      t.HasFlags (decide ((a + v + c) % 256 = 0)) false (decide (a % 16 + v % 16 + c > 15)) (decide (a + v + c > 255)) ∧
      { t with a := s.a, f := s.f } = { s with cycles := s.cycles + src.cost })

/-- SUB, SBC and CP on every source, in exact arithmetic; the borrow sums are not truncated; CP does not write A (`41_alu.md`
R105, R108, R109, R113). The costs are the spec's own general knowledge (log 5). -/
def Obligations.SubtractAndCompare : Prop :=
  ∀ (s : State) (src : AluSource),
    let a := s.a.toNat
    let v := (s.source src).toNat
    let c := (s.flag .c).toNat
    (∃ t, exec (aluForm .sub src).instr s = .next t ∧ (t.a.toNat : Int) = ((a : Int) - v) % 256 ∧
      t.HasFlags (decide (a = v)) true (decide (a % 16 < v % 16)) (decide (a < v)) ∧
      { t with a := s.a, f := s.f } = { s with cycles := s.cycles + src.cost }) ∧
    (∃ t, exec (aluForm .sbc src).instr s = .next t ∧ (t.a.toNat : Int) = ((a : Int) - v - c) % 256 ∧
      t.HasFlags (decide (((a : Int) - v - c) % 256 = 0)) true (decide (a % 16 < v % 16 + c)) (decide (a < v + c)) ∧
      { t with a := s.a, f := s.f } = { s with cycles := s.cycles + src.cost }) ∧
    (∃ t, exec (aluForm .cp src).instr s = .next t ∧
      t.HasFlags (decide (a = v)) true (decide (a % 16 < v % 16)) (decide (a < v)) ∧
      { t with f := s.f } = { s with cycles := s.cycles + src.cost })

/-- AND, OR and XOR on every source, bit by bit (`41_alu.md` R105, R110, R111, R112). The costs are the spec's own general
knowledge (log 5). -/
def Obligations.BitwiseOperations : Prop :=
  ∀ (s : State) (src : AluSource),
    (∃ t, exec (aluForm .and src).instr s = .next t ∧
      (∀ k, t.a.getLsbD k = (s.a.getLsbD k && (s.source src).getLsbD k)) ∧
      t.HasFlags (decide (t.a.toNat = 0)) false true false ∧
      { t with a := s.a, f := s.f } = { s with cycles := s.cycles + src.cost }) ∧
    (∃ t, exec (aluForm .or src).instr s = .next t ∧
      (∀ k, t.a.getLsbD k = (s.a.getLsbD k || (s.source src).getLsbD k)) ∧
      t.HasFlags (decide (t.a.toNat = 0)) false false false ∧
      { t with a := s.a, f := s.f } = { s with cycles := s.cycles + src.cost }) ∧
    (∃ t, exec (aluForm .xor src).instr s = .next t ∧
      (∀ k, t.a.getLsbD k = (s.a.getLsbD k ^^ (s.source src).getLsbD k)) ∧
      t.HasFlags (decide (t.a.toNat = 0)) false false false ∧
      { t with a := s.a, f := s.f } = { s with cycles := s.cycles + src.cost })

/-- INC and DEC on every register and on (HL): the operand, Z, N and H are written, C and everything else is unchanged
(`41_alu.md` R114, R115). The costs are the spec's own general knowledge (log 5). -/
def Obligations.IncrementAndDecrement : Prop :=
  ∀ (s : State) (x : Operand8),
    let v := (s.read8 x).toNat
    (∃ t, exec (Form.incByte x).instr s = .next t ∧
      t.HasFlags (decide (v = 255)) false (decide (v % 16 = 15)) (s.flag .c) ∧
      { t with f := s.f } = { s.write8 x (BitVec.ofNat 8 (v + 1)) with cycles := s.cycles + x.cost 4 12 }) ∧
    (∃ t, exec (Form.decByte x).instr s = .next t ∧
      t.HasFlags (decide (v = 1)) true (decide (v % 16 = 0)) (s.flag .c) ∧
      { t with f := s.f } = { s.write8 x (BitVec.ofNat 8 (v + 255)) with cycles := s.cycles + x.cost 4 12 })

/-- INC rr, DEC rr and ADD HL,rr on every pair: the first two change no flag; the third leaves Z, clears N and sets H and C from
bits 11 and 15 (`41_alu.md` R116, R117, R118). The costs are the spec's own general knowledge (log 5). -/
def Obligations.PairArithmetic : Prop :=
  ∀ (s : State) (p : Reg16),
    let hl := s.hl.toNat
    let v := (s.reg16 p).toNat
    exec (Form.incPair p).instr s = .next { s.setReg16 p (BitVec.ofNat 16 (v + 1)) with cycles := s.cycles + 8 } ∧
    exec (Form.decPair p).instr s = .next { s.setReg16 p (BitVec.ofNat 16 (v + 65535)) with cycles := s.cycles + 8 } ∧
    ∃ t, exec (Form.addHl p).instr s = .next t ∧
      t.HasFlags (s.flag .z) false (decide (hl % 4096 + v % 4096 > 4095)) (decide (hl + v > 65535)) ∧
      { t with f := s.f } = { s.setHl (BitVec.ofNat 16 (hl + v)) with cycles := s.cycles + 8 }

/-! ## Control transfer -/

/-- `JP nn`, `JP cc,nn`, `JR e` and `JR cc,e`, taken and not taken, with the sum wrapping (`42_control.md` R126, R127, R129,
R130). -/
def Obligations.Jumps : Prop :=
  ∀ (s : State) (cc : Cond) (nn : Word) (e : Byte),
    let target := BitVec.ofInt 16 ((s.pc.toNat : Int) + e.toInt)
    Runs (.jp nn) [0xC3#8, loByte nn, hiByte nn] s { s with pc := nn, cycles := s.cycles + 16 } ∧
    Runs (.jpIf cc nn) [opcode 3 cc.code 2, loByte nn, hiByte nn] s
      (if s.cond cc then { s with pc := nn, cycles := s.cycles + 16 } else { s with cycles := s.cycles + 12 }) ∧
    Runs (.jr e) [0x18#8, e] s { s with pc := target, cycles := s.cycles + 12 } ∧
    Runs (.jrIf cc e) [opcode 0 (cc.code + 4) 0, e] s
      (if s.cond cc then { s with pc := target, cycles := s.cycles + 12 } else { s with cycles := s.cycles + 8 })

/-- `CALL nn`, `CALL cc,nn`, `RST t` and `RET cc`, taken and not taken: what is pushed is the PC after the operands; not taken,
SP and memory are not touched (`42_control.md` R131, R132, R134, R137). -/
def Obligations.CallsAndReturns : Prop :=
  ∀ (s : State) (cc : Cond) (nn : Word) (t : Fin 8),
    Runs (.call nn) [0xCD#8, loByte nn, hiByte nn] s { s.push16 s.pc with pc := nn, cycles := s.cycles + 24 } ∧
    Runs (.callIf cc nn) [opcode 3 cc.code 4, loByte nn, hiByte nn] s
      (if s.cond cc then { s.push16 s.pc with pc := nn, cycles := s.cycles + 24 } else { s with cycles := s.cycles + 12 }) ∧
    Runs (.retIf cc) [opcode 3 cc.code 0] s
      (if s.cond cc then { s with pc := s.readWord s.sp, sp := s.sp + 2#16, cycles := s.cycles + 20 }
       else { s with cycles := s.cycles + 8 }) ∧
    Runs (.rst t) [opcode 3 t.val 7] s
      { s.push16 s.pc with pc := BitVec.ofNat 16 (t.val * 8), cycles := s.cycles + 16 }

/-- `JP HL`, `RET` and `RETI` (`42_control.md` R128, R133, R135). The costs are the spec's own general knowledge (log 5). -/
def Obligations.UnconditionalReturns : Prop :=
  ∀ s : State,
    Runs .jpHl [0xE9#8] s { s with pc := s.hl, cycles := s.cycles + 4 } ∧
    Runs .ret [0xC9#8] s { s with pc := s.readWord s.sp, sp := s.sp + 2#16, cycles := s.cycles + 16 } ∧
    Runs .reti [0xD9#8] s
      { s with pc := s.readWord s.sp, sp := s.sp + 2#16, ime := true, cycles := s.cycles + 16 }

/-! ## Rotates, BCD, flag operations, CPU control -/

/-- The accumulator rotates force Z to 0; the 0xCB rotates and shifts take Z from the result; N = H = 0 for all of them, and C
is the bit moved out (`43_misc.md` R138 to R141, `44_cb_prefix.md` R153 to R160). N and H are the spec's decision D16 (log 6),
and the cost 4 is its general knowledge (log 5). -/
def Obligations.RotatesAndShifts : Prop :=
  (∀ (s : State) (f : Form) (op : RotateOp),
    (f, op) ∈ [(Form.rlca, RotateOp.rlc), (Form.rrca, RotateOp.rrc), (Form.rla, RotateOp.rl), (Form.rra, RotateOp.rr)] →
    let r := op.arithmetic s.a.toNat (s.flag .c).toNat
    ∃ t, exec f.instr s = .next t ∧ t.a.toNat = r.1 ∧ t.HasFlags false false false (decide (r.2 = 1)) ∧
      { t with a := s.a, f := s.f } = { s with cycles := s.cycles + 4 }) ∧
  ∀ (s : State) (op : RotateOp) (x : Operand8), op ≠ .swap →
    let r := op.arithmetic (s.read8 x).toNat (s.flag .c).toNat
    ∃ t, exec (Form.rotate op x).instr s = .next t ∧
      t.HasFlags (decide (r.1 = 0)) false false (decide (r.2 = 1)) ∧
      { t with f := s.f } = { s.write8 x (BitVec.ofNat 8 r.1) with cycles := s.cycles + x.cost 8 16 }

/-- SWAP exchanges the nibbles of its operand, takes Z from the result and clears N, H and C (`44_cb_prefix.md` R161). -/
def Obligations.SwapExchangesNibbles : Prop :=
  ∀ (s : State) (x : Operand8),
    let v := (s.read8 x).toNat
    ∃ t, Runs (.rotate .swap x) [0xCB#8, opcode 0 6 x.code] s t ∧
      t.HasFlags (decide (v = 0)) false false false ∧
      { t with f := s.f } =
        { s.write8 x (BitVec.ofNat 8 (v % 16 * 16 + v / 16)) with cycles := s.cycles + x.cost 8 16 }

/-- BIT, SET and RES on every bit and operand, bit by bit (`44_cb_prefix.md` R162, R163, R164). -/
def Obligations.BitTestSetAndReset : Prop :=
  ∀ (s : State) (b : Fin 8) (x : Operand8),
    let v := s.read8 x
    (∃ t, Runs (.testBit b x) [0xCB#8, opcode 1 b.val x.code] s t ∧
      t.HasFlags (!v.getLsbD b) false true (s.flag .c) ∧
      { t with f := s.f } = { s with cycles := s.cycles + x.cost 8 12 }) ∧
    (∃ w : Byte, (∀ k : Fin 8, w.getLsbD k = (decide (k = b) || v.getLsbD k)) ∧
      Runs (.setBit b x) [0xCB#8, opcode 3 b.val x.code] s { s.write8 x w with cycles := s.cycles + x.cost 8 16 }) ∧
    (∃ w : Byte, (∀ k : Fin 8, w.getLsbD k = (!decide (k = b) && v.getLsbD k)) ∧
      Runs (.resetBit b x) [0xCB#8, opcode 2 b.val x.code] s { s.write8 x w with cycles := s.cycles + x.cost 8 16 })

/-- DAA adjusts A by the algorithm of R142 for every input; N is unchanged and H cleared (`43_misc.md` R142, `90_conflicts.md`
C13, the spec's decision D23, log 12; the cost is its general knowledge, log 5). -/
def Obligations.DecimalAdjustAlgorithm : Prop :=
  ∀ s : State,
    let r := ((s.a.toNat : Int) + daaAdjustment s.a.toNat (s.flag .n) (s.flag .h) (s.flag .c)) % 256
    ∃ t, exec .daa s = .next t ∧ (t.a.toNat : Int) = r ∧
      t.HasFlags (decide (r = 0)) (s.flag .n) false
        (s.flag .c || (!s.flag .n && decide (s.a.toNat > 0x99))) ∧
      { t with a := s.a, f := s.f } = { s with cycles := s.cycles + 4 }

/-- CPL, SCF and CCF (`43_misc.md` R143, R144, R145). That the flags they do not name are unchanged is the spec's decision D15
(log 7); the cost is its general knowledge (log 5). -/
def Obligations.FlagOperations : Prop :=
  ∀ s : State,
    (∃ t, exec .cpl s = .next t ∧ t.a.toNat = 255 - s.a.toNat ∧ t.HasFlags (s.flag .z) true true (s.flag .c) ∧
      { t with a := s.a, f := s.f } = { s with cycles := s.cycles + 4 }) ∧
    (∃ t, exec .scf s = .next t ∧ t.HasFlags (s.flag .z) false false true ∧
      { t with f := s.f } = { s with cycles := s.cycles + 4 }) ∧
    (∃ t, exec .ccf s = .next t ∧ t.HasFlags (s.flag .z) false false (!s.flag .c) ∧
      { t with f := s.f } = { s with cycles := s.cycles + 4 })

/-- NOP, STOP, HALT, DI and EI (`43_misc.md` R146 to R150). STOP's length, HALT's cost and EI's immediacy are the spec's
decisions D5, D11 and D12 (log 9, 10, 11); the other costs are its general knowledge (log 5). -/
def Obligations.CpuControl : Prop :=
  ∀ s : State,
    Runs .nop [0x00#8] s { s with cycles := s.cycles + 4 } ∧
    Runs .stop [0x10#8] s { s with cycles := s.cycles + 4 } ∧
    Runs .halt [0x76#8] s { s with halt := true, cycles := s.cycles + 4 } ∧
    Runs .di [0xF3#8] s { s with ime := false, cycles := s.cycles + 4 } ∧
    Runs .ei [0xFB#8] s { s with ime := true, cycles := s.cycles + 4 }

/-- An UNIMPLEMENTED opcode, under either value of the policy: Record sets `unimpl` and charges some number of cycles, Fatal
sets the fault mark and charges nothing; nothing else of the spec's state changes (`43_misc.md` R151, the spec's decisions D6,
D7, D8; log 1, 2, 3). It holds for every value of the free draw. -/
def Obligations.UnimplementedOpcodeEvent : Prop :=
  ∀ (s : State) (op : Byte), ∃ t, exec (.unimplemented op) s = .next t ∧
    match Config.unimplPolicy with
    | .record => s.cycles ≤ t.cycles ∧ t = { s with unimpl := some op, cycles := t.cycles, draws := t.draws }
    | .fatal => t = { s with fault := some (.unimplementedOpcode op) }

/-! ## Properties of the instructions together -/

/-- RLC and RRC undo each other on every operand, SWAP undoes itself, and RR undoes RL on the operand and the carry together
(`44_cb_prefix.md` R154 to R157, R161). -/
def Obligations.RotatesHaveInverses : Prop :=
  ∀ (s : State) (x : Operand8),
    (∃ t u, exec (Form.rotate .rlc x).instr s = .next t ∧ exec (Form.rotate .rrc x).instr t = .next u ∧
      u.read8 x = s.read8 x) ∧
    (∃ t u, exec (Form.rotate .rrc x).instr s = .next t ∧ exec (Form.rotate .rlc x).instr t = .next u ∧
      u.read8 x = s.read8 x) ∧
    (∃ t u, exec (Form.rotate .swap x).instr s = .next t ∧ exec (Form.rotate .swap x).instr t = .next u ∧
      u.read8 x = s.read8 x) ∧
    (∃ t u, exec (Form.rotate .rl x).instr s = .next t ∧ exec (Form.rotate .rr x).instr t = .next u ∧
      u.read8 x = s.read8 x ∧ u.flag .c = s.flag .c)

/-- DAA makes BCD arithmetic decimal: after ADD of two BCD bytes it gives their decimal sum modulo 100 with C as the hundred, and
after SUB their decimal difference modulo 100 with C as the borrow (`41_alu.md` R106, R108, `43_misc.md` R142). -/
def Obligations.DecimalArithmetic : Prop :=
  ∀ (s : State) (m n : Nat), m < 100 → n < 100 → s.a = bcd m →
    (∃ t u, exec (.add_a_n8 (bcd n)) s = .next t ∧ exec .daa t = .next u ∧
      u.a = bcd ((m + n) % 100) ∧ u.flag .c = decide (100 ≤ m + n)) ∧
    (∃ t u, exec (.sub_n8 (bcd n)) s = .next t ∧ exec .daa t = .next u ∧
      u.a = bcd ((m + 100 - n) % 100) ∧ u.flag .c = decide (m < n))

/-! ## The renderer and the load -/

/-- The renderer's algorithm at every pixel of the frame, and its refusal outside it (`60_exceptions.md` R182 to R187). The
refusal is the spec's decision D19 (log 21). -/
def Obligations.PixelAlgorithm : Prop :=
  (∀ (s : State) (x y : Nat), x < 160 → y < 144 →
    let lcdc := s.readByte 0xFF40#16
    let bgp := (s.readByte 0xFF47#16).toNat
    let index := s.readByte (BitVec.ofNat 16 ((if lcdc.getLsbD 3 then 0x9C00 else 0x9800) + y / 8 * 32 + x / 8))
    let tile : Int := if lcdc.getLsbD 4 then 0x8000 + index.toNat * 16 else 0x9000 + index.toInt * 16
    let lo := s.readByte (BitVec.ofInt 16 (tile + (y % 8 * 2 : Nat)))
    let hi := s.readByte (BitVec.ofInt 16 (tile + (y % 8 * 2 + 1 : Nat)))
    let id := (hi.getLsbD (7 - x % 8)).toNat * 2 + (lo.getLsbD (7 - x % 8)).toNat
    getPixel s x y = .ok (([0xFFFFFF#32, 0xAAAAAA#32, 0x555555#32, 0x000000#32]).getD (bgp / 4 ^ id % 4) 0#32)) ∧
  ∀ (s : State) (x y : Int), ¬ (0 ≤ x ∧ x < 160 ∧ 0 ≤ y ∧ y < 144) → getPixel s x y = .error .pixelOutsideFrame

/-- A pixel depends only on LCDC bits 3 and 4, on BGP and on VRAM: two states that agree on those give the same pixels
(`60_exceptions.md` R188; the spec's decision D20, log 21). -/
def Obligations.RendererReadsOnlyVram : Prop :=
  ∀ (s t : State) (x y : Int),
    (s.readByte 0xFF40#16).getLsbD 3 = (t.readByte 0xFF40#16).getLsbD 3 →
    (s.readByte 0xFF40#16).getLsbD 4 = (t.readByte 0xFF40#16).getLsbD 4 →
    s.readByte 0xFF47#16 = t.readByte 0xFF47#16 →
    (∀ a : Word, 0x8000 ≤ a.toNat → a.toNat < 0xA000 → s.readByte a = t.readByte a) →
    getPixel s x y = getPixel t x y

/-- A launched run starts in the boot state with the image's bytes at the addresses from 0 on and every other byte at its init
value; an image of more than 65 536 bytes, or none, is refused (`70_reset_and_hazards.md` R194, R195, R197; the order is the
spec's decision D13, log 23). -/
def Obligations.LaunchLoadsTheImage : Prop :=
  (∀ rom : List Byte, rom.length ≤ 65536 → ∃ s, launch (some rom) = .ok s ∧
    (∀ a : Word, s.readByte a = rom.getD a.toNat (State.reset.readByte a)) ∧
    { s with mem := [] } = State.reset) ∧
  (∀ rom : List Byte, rom.length > 65536 → launch (some rom) = .error .invalidRomSize) ∧
  launch none = .error .invalidRom
end

