-- ==== Sys2Proof/Laws/Decode.lean ====
section
/-! SUPPORT. What the decoder does on a list of bytes, from what it does on a window of three; and that every table entry is
well formed and encoded by its own byte. -/

namespace Sys2Proof

/-- A list of bytes that holds the whole instruction decodes to it, with the rest left over. -/
theorem decode_of_window {b0 : Byte} {rest : List Byte} {i : Instr} {n : Nat}
    (h : decodeWindow b0 (rest.getD 0 0#8) (rest.getD 1 0#8) = (i, n)) (hn : n ≤ rest.length + 1) :
    decode (b0 :: rest) = .ok (i, (b0 :: rest).drop n) := by
  simp only [decode, h, List.length_cons, hn, if_true]

/-- An instruction is one to three bytes long (`30_encoding.md` R61). -/
theorem decodeWindow_length (b0 b1 b2 : Byte) :
    1 ≤ (decodeWindow b0 b1 b2).2 ∧ (decodeWindow b0 b1 b2).2 ≤ 3 := by
  unfold decodeWindow
  split <;> simp

/-- A property of every byte value follows from the 256 values. -/
theorem Byte.forall_of_fin {P : Byte → Prop} (h : ∀ n : Fin 256, P (BitVec.ofFin n)) (b : Byte) : P b := h b.toFin

/-- Every entry of the primary table gives instructions that are encoded by its own opcode byte and are well formed. -/
theorem encode_primaryEntry (b : Byte) : match primaryEntry b with
    | .plain i => encode i = [b] ∧ i.WellFormed
    | .imm8 make => ∀ n, encode (make n) = [b, n] ∧ (make n).WellFormed
    | .imm16 make => ∀ nn, encode (make nn) = [b, loByte nn, hiByte nn] ∧ (make nn).WellFormed
    | .cbPrefix => b = 0xCB#8
    | .noInstr => unimplementedOpcodes.contains b = true := by
  revert b
  apply Byte.forall_of_fin
  intro n
  fin_cases n <;> first | exact ⟨rfl, rfl⟩ | exact fun _ => ⟨rfl, rfl⟩ | rfl

/-- Every entry of the 0xCB table is encoded by 0xCB and its own byte, and is well formed. -/
theorem encode_cbInstr (b : Byte) : encode (cbInstr b) = [0xCB#8, b] ∧ (cbInstr b).WellFormed := by
  revert b
  apply Byte.forall_of_fin
  intro n
  fin_cases n <;> exact ⟨rfl, rfl⟩

end Sys2Proof
end

