-- ==== Sys2Proof/Laws/Flags.lean ====
section
/-! SUPPORT. The laws of the flag unit: what each flag reads as after each flag write, and that the low nibble of F and the
rest of the state are left alone. -/

namespace Sys2Proof.Machine

theorem putFlag_getLsbD (f : Byte) (x y : Flag) (v : Bool) :
    (putFlag f x v).getLsbD y.bit = if y = x then v else f.getLsbD y.bit := by
  cases x <;> cases y <;> cases v <;> simp [putFlag, Flag.bit]

@[simp] theorem putFlag_nibble (f : Byte) (x : Flag) (v : Bool) : putFlag f x v &&& 0x0F#8 = f &&& 0x0F#8 := by
  revert f; cases x <;> cases v <;> decide

@[simp] theorem State.flag_setFlag (s : State) (x y : Flag) (v : Bool) :
    (s.setFlag x v).flag y = if y = x then v else s.flag y := putFlag_getLsbD s.f x y v

@[simp] theorem State.setFlag_nibble (s : State) (x : Flag) (v : Bool) :
    (s.setFlag x v).f &&& 0x0F#8 = s.f &&& 0x0F#8 := putFlag_nibble s.f x v

/-- The four flags after `setFlags`. -/
@[simp] theorem State.flag_setFlags (s : State) (z n h c : Bool) (y : Flag) :
    (s.setFlags z n h c).flag y = match y with | .z => z | .n => n | .h => h | .c => c := by
  cases y <;> simp [setFlags]

/-- The four flags after `setZnh`. -/
@[simp] theorem State.flag_setZnh (s : State) (z n h : Bool) (y : Flag) :
    (s.setZnh z n h).flag y = match y with | .z => z | .n => n | .h => h | .c => s.flag .c := by
  cases y <;> simp [setZnh]

/-- The four flags after `setNhc`. -/
@[simp] theorem State.flag_setNhc (s : State) (n h c : Bool) (y : Flag) :
    (s.setNhc n h c).flag y = match y with | .z => s.flag .z | .n => n | .h => h | .c => c := by
  cases y <;> simp [setNhc]

@[simp] theorem State.setFlags_nibble (s : State) (z n h c : Bool) :
    (s.setFlags z n h c).f &&& 0x0F#8 = s.f &&& 0x0F#8 := by simp [setFlags]

@[simp] theorem State.setZnh_nibble (s : State) (z n h : Bool) :
    (s.setZnh z n h).f &&& 0x0F#8 = s.f &&& 0x0F#8 := by simp [setZnh]

@[simp] theorem State.setNhc_nibble (s : State) (n h c : Bool) :
    (s.setNhc n h c).f &&& 0x0F#8 = s.f &&& 0x0F#8 := by simp [setNhc]

/-- A flag write changes F only: the state is the old one with the new F. -/
theorem State.setFlag_eq (s : State) (x : Flag) (v : Bool) : s.setFlag x v = { s with f := (s.setFlag x v).f } := rfl

theorem State.setFlags_eq (s : State) (z n h c : Bool) :
    s.setFlags z n h c = { s with f := (s.setFlags z n h c).f } := rfl

theorem State.setZnh_eq (s : State) (z n h : Bool) : s.setZnh z n h = { s with f := (s.setZnh z n h).f } := rfl

theorem State.setNhc_eq (s : State) (n h c : Bool) : s.setNhc n h c = { s with f := (s.setNhc n h c).f } := rfl

end Sys2Proof.Machine
end

