-- ==== Sys2Proof/Laws/Forms.lean ====
section
/-! SUPPORT. The meaning of every form, over the shared operations of the families, and the one lemma that says `exec` gives an
instruction the meaning of its form. A proof over all instructions goes by cases on the 64 forms, not on the 501 constructors. -/

namespace Sys2Proof.Machine

/-- The shared operation a form's meaning is. -/
def Form.meaning (f : Form) (s : State) : Result :=
  match f with
  | .ldRegReg dst src => Sys2Proof.Machine.ldRegReg dst src s
  | .ldRegImm dst n => Sys2Proof.Machine.ldRegImm dst n s
  | .ldRegHl dst => Sys2Proof.Machine.ldRegHl dst s
  | .ldHlReg src => Sys2Proof.Machine.ldHlReg src s
  | .ldHlImm n => Sys2Proof.Machine.ldHlImm n s
  | .ldABc => loadA s.bc 8 s
  | .ldADe => loadA s.de 8 s
  | .ldBcA => storeA s.bc 8 s
  | .ldDeA => storeA s.de 8 s
  | .ldAAbs nn => loadA nn 16 s
  | .ldHlIncA => storeAStepping s.hli
  | .ldHlDecA => storeAStepping s.hld
  | .ldAHlInc => loadAStepping s.hli
  | .ldAHlDec => loadAStepping s.hld
  | .ldHighA n => storeA (highPage n) 12 s
  | .ldAHigh n => loadA (highPage n) 12 s
  | .ldHighCA => storeA (highPage s.c) 8 s
  | .ldAHighC => loadA (highPage s.c) 8 s
  | .ldAbsA nn => storeA nn 16 s
  | .ldPairImm p nn => Sys2Proof.Machine.ldPairImm p nn s
  | .ldAbsSp nn => Sys2Proof.Machine.ldAbsSp nn s
  | .ldSpHl => Sys2Proof.Machine.ldSpHl s
  | .ldHlSpOffset e => Sys2Proof.Machine.ldHlSpOffset e s
  | .push p => Sys2Proof.Machine.push p s
  | .pop p => Sys2Proof.Machine.pop p s
  | .alu op x => Sys2Proof.Machine.alu op (.operand x) s
  | .aluImm op n => Sys2Proof.Machine.alu op (.imm n) s
  | .incByte x => Sys2Proof.Machine.incByte x s
  | .decByte x => Sys2Proof.Machine.decByte x s
  | .incPair p => Sys2Proof.Machine.incPair p s
  | .decPair p => Sys2Proof.Machine.decPair p s
  | .addHl p => Sys2Proof.Machine.addHl p s
  | .addSp e => Sys2Proof.Machine.addSp e s
  | .jp nn => Sys2Proof.Machine.jp nn s
  | .jpIf cc nn => Sys2Proof.Machine.jpIf cc nn s
  | .jpHl => Sys2Proof.Machine.jpHl s
  | .jr e => Sys2Proof.Machine.jr e s
  | .jrIf cc e => Sys2Proof.Machine.jrIf cc e s
  | .call nn => Sys2Proof.Machine.call nn s
  | .callIf cc nn => Sys2Proof.Machine.callIf cc nn s
  | .ret => Sys2Proof.Machine.ret s
  | .retIf cc => Sys2Proof.Machine.retIf cc s
  | .reti => Sys2Proof.Machine.reti s
  | .rst t => Sys2Proof.Machine.rst (BitVec.ofNat 16 (t.val * 8)) s
  | .rlca => rotateA .rlc s
  | .rrca => rotateA .rrc s
  | .rla => rotateA .rl s
  | .rra => rotateA .rr s
  | .daa => decimalAdjust s
  | .cpl => complementA s
  | .scf => setCarry s
  | .ccf => complementCarry s
  | .nop => noOperation s
  | .stop => Sys2Proof.Machine.stop s
  | .halt => haltCore s
  | .di => writeIme false s
  | .ei => writeIme true s
  | .unimplemented op => unimplementedOpcode op s
  | .rotate op x => Sys2Proof.Machine.rotate op x s
  | .testBit b x => Sys2Proof.Machine.testBit b x s
  | .resetBit b x => Sys2Proof.Machine.resetBit b x s
  | .setBit b x => Sys2Proof.Machine.setBit b x s

theorem exec_instr (f : Form) (s : State) : exec f.instr s = f.meaning s := by
  cases f with
  | ldRegReg dst src => cases dst <;> cases src <;> rfl
  | ldRegImm dst n => cases dst <;> rfl
  | ldRegHl dst => cases dst <;> rfl
  | ldHlReg src => cases src <;> rfl
  | ldHlImm n => rfl
  | ldABc => rfl
  | ldADe => rfl
  | ldBcA => rfl
  | ldDeA => rfl
  | ldAAbs nn => rfl
  | ldHlIncA => rfl
  | ldHlDecA => rfl
  | ldAHlInc => rfl
  | ldAHlDec => rfl
  | ldHighA n => rfl
  | ldAHigh n => rfl
  | ldHighCA => rfl
  | ldAHighC => rfl
  | ldAbsA nn => rfl
  | ldPairImm p nn => cases p <;> rfl
  | ldAbsSp nn => rfl
  | ldSpHl => rfl
  | ldHlSpOffset e => rfl
  | push p => cases p <;> rfl
  | pop p => cases p <;> rfl
  | alu op x => cases op <;> rcases x with ⟨_ | _ | _ | _ | _ | _ | _⟩ | _ <;> rfl
  | aluImm op n => cases op <;> rfl
  | incByte x => rcases x with ⟨_ | _ | _ | _ | _ | _ | _⟩ | _ <;> rfl
  | decByte x => rcases x with ⟨_ | _ | _ | _ | _ | _ | _⟩ | _ <;> rfl
  | incPair p => cases p <;> rfl
  | decPair p => cases p <;> rfl
  | addHl p => cases p <;> rfl
  | addSp e => rfl
  | jp nn => rfl
  | jpIf cc nn => cases cc <;> rfl
  | jpHl => rfl
  | jr e => rfl
  | jrIf cc e => cases cc <;> rfl
  | call nn => rfl
  | callIf cc nn => cases cc <;> rfl
  | ret => rfl
  | retIf cc => cases cc <;> rfl
  | reti => rfl
  | rst t => fin_cases t <;> rfl
  | rlca => rfl
  | rrca => rfl
  | rla => rfl
  | rra => rfl
  | daa => rfl
  | cpl => rfl
  | scf => rfl
  | ccf => rfl
  | nop => rfl
  | stop => rfl
  | halt => rfl
  | di => rfl
  | ei => rfl
  | unimplemented op => rfl
  | rotate op x => cases op <;> rcases x with ⟨_ | _ | _ | _ | _ | _ | _⟩ | _ <;> rfl
  | testBit b x => fin_cases b <;> rcases x with ⟨_ | _ | _ | _ | _ | _ | _⟩ | _ <;> rfl
  | resetBit b x => fin_cases b <;> rcases x with ⟨_ | _ | _ | _ | _ | _ | _⟩ | _ <;> rfl
  | setBit b x => fin_cases b <;> rcases x with ⟨_ | _ | _ | _ | _ | _ | _⟩ | _ <;> rfl

end Sys2Proof.Machine
end

