-- ==== Sys2Proof/Laws/Memory.lean ====
section
/-! SUPPORT. The laws of memory: what a read gives after a write, at every memory, canonical or not; and that a write keeps the
canonical form. -/

namespace Sys2Proof.Machine

theorem Memory.lookup_insert (m : Memory) (k j : Nat) (v : Byte) :
    Memory.lookup j (Memory.insert k v m) = if j = k then v else Memory.lookup j m := by
  induction m with
  | nil => by_cases h : k = j <;> simp [insert, lookup, h, eq_comm]
  | cons cell rest ih =>
    simp only [insert]
    by_cases hjk : j = k
    · subst hjk
      split
      · simp [lookup]
      · split
        · simp [lookup]
        · rename_i h
          simp [lookup, ih, Ne.symm h]
    · split
      · simp [lookup, Ne.symm hjk]
      · split
        · rename_i h
          subst h
          simp [lookup, Ne.symm hjk]
        · simp [lookup, ih, hjk]

theorem Memory.lookup_filter (m : Memory) (k j : Nat) :
    Memory.lookup j (m.filter (fun cell => cell.1 ≠ k)) =
      if j = k then Memory.initial j else Memory.lookup j m := by
  induction m with
  | nil => simp [lookup]
  | cons cell rest ih =>
    by_cases hc : cell.1 = k
    · rw [List.filter_cons_of_neg (by simp [hc]), ih]
      by_cases hj : j = k
      · simp [hj]
      · simp [lookup, hj, hc, Ne.symm hj]
    · rw [List.filter_cons_of_pos (by simp [hc])]
      simp only [lookup, ih]
      by_cases hj : j = k
      · simp [hj, hc]
      · simp [hj]

/-- A read after a write (`20_memory.md` R42). -/
theorem Memory.read_write (m : Memory) (a b : Word) (v : Byte) :
    (m.write a v).read b = if b = a then v else m.read b := by
  have key : b.toNat = a.toNat ↔ b = a := BitVec.toNat_inj
  simp only [write, read]
  split
  · rename_i h
    rw [lookup_filter]
    simp only [key]
    split
    · rename_i e; rw [h, e]
    · rfl
  · rw [lookup_insert]; simp only [key]

theorem Memory.mem_insert {m : Memory} {k : Nat} {v : Byte} {cell : Host.Cell} (h : cell ∈ Memory.insert k v m) :
    cell = (k, v) ∨ cell ∈ m := by
  induction m with
  | nil => simpa [insert] using h
  | cons c rest ih =>
    simp only [insert] at h
    split at h
    · simpa using h
    · split at h
      · simp only [List.mem_cons] at h ⊢; tauto
      · simp only [List.mem_cons] at h ⊢
        rcases h with h | h
        · exact .inr (.inl h)
        · rcases ih h with h | h <;> tauto

theorem Memory.pairwise_insert {m : Memory} (k : Nat) (v : Byte) (h : m.Pairwise (fun x y => x.1 < y.1)) :
    (Memory.insert k v m).Pairwise (fun x y => x.1 < y.1) := by
  induction m with
  | nil => simp [insert]
  | cons c rest ih =>
    rw [List.pairwise_cons] at h
    simp only [insert]
    split
    · rename_i hk
      refine List.pairwise_cons.2 ⟨fun x hx => ?_, List.pairwise_cons.2 h⟩
      rcases List.mem_cons.1 hx with rfl | hx
      · exact hk
      · exact Nat.lt_trans hk (h.1 x hx)
    · split
      · rename_i e
        exact List.pairwise_cons.2 ⟨fun x hx => e ▸ h.1 x hx, h.2⟩
      · refine List.pairwise_cons.2 ⟨fun x hx => ?_, ih h.2⟩
        rcases mem_insert hx with rfl | hx
        · show c.1 < k; omega
        · exact h.1 x hx

/-- A write keeps the canonical form. -/
theorem Memory.wf_write {m : Memory} (h : m.wf) (a : Word) (v : Byte) : (m.write a v).wf := by
  unfold write
  split
  · exact ⟨h.1.filter _, fun cell hc => h.2 cell (List.mem_of_mem_filter hc)⟩
  · rename_i hv
    refine ⟨pairwise_insert _ _ h.1, fun cell hc => ?_⟩
    rcases mem_insert hc with rfl | hc
    · exact ⟨a.isLt, hv⟩
    · exact h.2 cell hc

theorem Memory.wf_nil : Memory.wf [] := by decide

/-- A canonical memory does not list an address below the first. -/
theorem Memory.lookup_of_lt {m : Memory} {k : Nat} (h : ∀ cell ∈ m, k < cell.1) :
    Memory.lookup k m = Memory.initial k := by
  induction m with
  | nil => rfl
  | cons c rest ih =>
    have hc := h c (by simp)
    simp only [lookup, show c.1 ≠ k by omega, if_false]
    exact ih fun cell hcell => h cell (List.mem_cons_of_mem _ hcell)

end Sys2Proof.Machine
end

