-- ==== Sys2Proof/Laws/State.lean ====
section
/-! SUPPORT. What every field of State is after every named update: one lemma per field per update, so that no proof unfolds a
record update. -/

namespace Sys2Proof.Machine

@[simp] theorem State.setBc_a (s : State) (v : Word) : (s.setBc v).a = s.a := rfl
@[simp] theorem State.setBc_b (s : State) (v : Word) : (s.setBc v).b = hiByte v := rfl
@[simp] theorem State.setBc_c (s : State) (v : Word) : (s.setBc v).c = loByte v := rfl
@[simp] theorem State.setBc_d (s : State) (v : Word) : (s.setBc v).d = s.d := rfl
@[simp] theorem State.setBc_e (s : State) (v : Word) : (s.setBc v).e = s.e := rfl
@[simp] theorem State.setBc_h (s : State) (v : Word) : (s.setBc v).h = s.h := rfl
@[simp] theorem State.setBc_l (s : State) (v : Word) : (s.setBc v).l = s.l := rfl
@[simp] theorem State.setBc_f (s : State) (v : Word) : (s.setBc v).f = s.f := rfl
@[simp] theorem State.setBc_sp (s : State) (v : Word) : (s.setBc v).sp = s.sp := rfl
@[simp] theorem State.setBc_pc (s : State) (v : Word) : (s.setBc v).pc = s.pc := rfl
@[simp] theorem State.setBc_mem (s : State) (v : Word) : (s.setBc v).mem = s.mem := rfl
@[simp] theorem State.setBc_ime (s : State) (v : Word) : (s.setBc v).ime = s.ime := rfl
@[simp] theorem State.setBc_halt (s : State) (v : Word) : (s.setBc v).halt = s.halt := rfl
@[simp] theorem State.setBc_cycles (s : State) (v : Word) : (s.setBc v).cycles = s.cycles := rfl
@[simp] theorem State.setBc_unimpl (s : State) (v : Word) : (s.setBc v).unimpl = s.unimpl := rfl
@[simp] theorem State.setBc_fault (s : State) (v : Word) : (s.setBc v).fault = s.fault := rfl
@[simp] theorem State.setBc_draws (s : State) (v : Word) : (s.setBc v).draws = s.draws := rfl

@[simp] theorem State.setDe_a (s : State) (v : Word) : (s.setDe v).a = s.a := rfl
@[simp] theorem State.setDe_b (s : State) (v : Word) : (s.setDe v).b = s.b := rfl
@[simp] theorem State.setDe_c (s : State) (v : Word) : (s.setDe v).c = s.c := rfl
@[simp] theorem State.setDe_d (s : State) (v : Word) : (s.setDe v).d = hiByte v := rfl
@[simp] theorem State.setDe_e (s : State) (v : Word) : (s.setDe v).e = loByte v := rfl
@[simp] theorem State.setDe_h (s : State) (v : Word) : (s.setDe v).h = s.h := rfl
@[simp] theorem State.setDe_l (s : State) (v : Word) : (s.setDe v).l = s.l := rfl
@[simp] theorem State.setDe_f (s : State) (v : Word) : (s.setDe v).f = s.f := rfl
@[simp] theorem State.setDe_sp (s : State) (v : Word) : (s.setDe v).sp = s.sp := rfl
@[simp] theorem State.setDe_pc (s : State) (v : Word) : (s.setDe v).pc = s.pc := rfl
@[simp] theorem State.setDe_mem (s : State) (v : Word) : (s.setDe v).mem = s.mem := rfl
@[simp] theorem State.setDe_ime (s : State) (v : Word) : (s.setDe v).ime = s.ime := rfl
@[simp] theorem State.setDe_halt (s : State) (v : Word) : (s.setDe v).halt = s.halt := rfl
@[simp] theorem State.setDe_cycles (s : State) (v : Word) : (s.setDe v).cycles = s.cycles := rfl
@[simp] theorem State.setDe_unimpl (s : State) (v : Word) : (s.setDe v).unimpl = s.unimpl := rfl
@[simp] theorem State.setDe_fault (s : State) (v : Word) : (s.setDe v).fault = s.fault := rfl
@[simp] theorem State.setDe_draws (s : State) (v : Word) : (s.setDe v).draws = s.draws := rfl

@[simp] theorem State.setHl_a (s : State) (v : Word) : (s.setHl v).a = s.a := rfl
@[simp] theorem State.setHl_b (s : State) (v : Word) : (s.setHl v).b = s.b := rfl
@[simp] theorem State.setHl_c (s : State) (v : Word) : (s.setHl v).c = s.c := rfl
@[simp] theorem State.setHl_d (s : State) (v : Word) : (s.setHl v).d = s.d := rfl
@[simp] theorem State.setHl_e (s : State) (v : Word) : (s.setHl v).e = s.e := rfl
@[simp] theorem State.setHl_h (s : State) (v : Word) : (s.setHl v).h = hiByte v := rfl
@[simp] theorem State.setHl_l (s : State) (v : Word) : (s.setHl v).l = loByte v := rfl
@[simp] theorem State.setHl_f (s : State) (v : Word) : (s.setHl v).f = s.f := rfl
@[simp] theorem State.setHl_sp (s : State) (v : Word) : (s.setHl v).sp = s.sp := rfl
@[simp] theorem State.setHl_pc (s : State) (v : Word) : (s.setHl v).pc = s.pc := rfl
@[simp] theorem State.setHl_mem (s : State) (v : Word) : (s.setHl v).mem = s.mem := rfl
@[simp] theorem State.setHl_ime (s : State) (v : Word) : (s.setHl v).ime = s.ime := rfl
@[simp] theorem State.setHl_halt (s : State) (v : Word) : (s.setHl v).halt = s.halt := rfl
@[simp] theorem State.setHl_cycles (s : State) (v : Word) : (s.setHl v).cycles = s.cycles := rfl
@[simp] theorem State.setHl_unimpl (s : State) (v : Word) : (s.setHl v).unimpl = s.unimpl := rfl
@[simp] theorem State.setHl_fault (s : State) (v : Word) : (s.setHl v).fault = s.fault := rfl
@[simp] theorem State.setHl_draws (s : State) (v : Word) : (s.setHl v).draws = s.draws := rfl

@[simp] theorem State.setAf_a (s : State) (v : Word) : (s.setAf v).a = hiByte v := rfl
@[simp] theorem State.setAf_b (s : State) (v : Word) : (s.setAf v).b = s.b := rfl
@[simp] theorem State.setAf_c (s : State) (v : Word) : (s.setAf v).c = s.c := rfl
@[simp] theorem State.setAf_d (s : State) (v : Word) : (s.setAf v).d = s.d := rfl
@[simp] theorem State.setAf_e (s : State) (v : Word) : (s.setAf v).e = s.e := rfl
@[simp] theorem State.setAf_h (s : State) (v : Word) : (s.setAf v).h = s.h := rfl
@[simp] theorem State.setAf_l (s : State) (v : Word) : (s.setAf v).l = s.l := rfl
@[simp] theorem State.setAf_f (s : State) (v : Word) : (s.setAf v).f = loByte v &&& 0xF0#8 := rfl
@[simp] theorem State.setAf_sp (s : State) (v : Word) : (s.setAf v).sp = s.sp := rfl
@[simp] theorem State.setAf_pc (s : State) (v : Word) : (s.setAf v).pc = s.pc := rfl
@[simp] theorem State.setAf_mem (s : State) (v : Word) : (s.setAf v).mem = s.mem := rfl
@[simp] theorem State.setAf_ime (s : State) (v : Word) : (s.setAf v).ime = s.ime := rfl
@[simp] theorem State.setAf_halt (s : State) (v : Word) : (s.setAf v).halt = s.halt := rfl
@[simp] theorem State.setAf_cycles (s : State) (v : Word) : (s.setAf v).cycles = s.cycles := rfl
@[simp] theorem State.setAf_unimpl (s : State) (v : Word) : (s.setAf v).unimpl = s.unimpl := rfl
@[simp] theorem State.setAf_fault (s : State) (v : Word) : (s.setAf v).fault = s.fault := rfl
@[simp] theorem State.setAf_draws (s : State) (v : Word) : (s.setAf v).draws = s.draws := rfl

@[simp] theorem State.writeByte_a (s : State) (a : Word) (v : Byte) : (s.writeByte a v).a = s.a := rfl
@[simp] theorem State.writeByte_b (s : State) (a : Word) (v : Byte) : (s.writeByte a v).b = s.b := rfl
@[simp] theorem State.writeByte_c (s : State) (a : Word) (v : Byte) : (s.writeByte a v).c = s.c := rfl
@[simp] theorem State.writeByte_d (s : State) (a : Word) (v : Byte) : (s.writeByte a v).d = s.d := rfl
@[simp] theorem State.writeByte_e (s : State) (a : Word) (v : Byte) : (s.writeByte a v).e = s.e := rfl
@[simp] theorem State.writeByte_h (s : State) (a : Word) (v : Byte) : (s.writeByte a v).h = s.h := rfl
@[simp] theorem State.writeByte_l (s : State) (a : Word) (v : Byte) : (s.writeByte a v).l = s.l := rfl
@[simp] theorem State.writeByte_f (s : State) (a : Word) (v : Byte) : (s.writeByte a v).f = s.f := rfl
@[simp] theorem State.writeByte_sp (s : State) (a : Word) (v : Byte) : (s.writeByte a v).sp = s.sp := rfl
@[simp] theorem State.writeByte_pc (s : State) (a : Word) (v : Byte) : (s.writeByte a v).pc = s.pc := rfl
@[simp] theorem State.writeByte_mem (s : State) (a : Word) (v : Byte) : (s.writeByte a v).mem = s.mem.write a v := rfl
@[simp] theorem State.writeByte_ime (s : State) (a : Word) (v : Byte) : (s.writeByte a v).ime = s.ime := rfl
@[simp] theorem State.writeByte_halt (s : State) (a : Word) (v : Byte) : (s.writeByte a v).halt = s.halt := rfl
@[simp] theorem State.writeByte_cycles (s : State) (a : Word) (v : Byte) : (s.writeByte a v).cycles = s.cycles := rfl
@[simp] theorem State.writeByte_unimpl (s : State) (a : Word) (v : Byte) : (s.writeByte a v).unimpl = s.unimpl := rfl
@[simp] theorem State.writeByte_fault (s : State) (a : Word) (v : Byte) : (s.writeByte a v).fault = s.fault := rfl
@[simp] theorem State.writeByte_draws (s : State) (a : Word) (v : Byte) : (s.writeByte a v).draws = s.draws := rfl

@[simp] theorem State.writeWord_a (s : State) (a v : Word) : (s.writeWord a v).a = s.a := rfl
@[simp] theorem State.writeWord_b (s : State) (a v : Word) : (s.writeWord a v).b = s.b := rfl
@[simp] theorem State.writeWord_c (s : State) (a v : Word) : (s.writeWord a v).c = s.c := rfl
@[simp] theorem State.writeWord_d (s : State) (a v : Word) : (s.writeWord a v).d = s.d := rfl
@[simp] theorem State.writeWord_e (s : State) (a v : Word) : (s.writeWord a v).e = s.e := rfl
@[simp] theorem State.writeWord_h (s : State) (a v : Word) : (s.writeWord a v).h = s.h := rfl
@[simp] theorem State.writeWord_l (s : State) (a v : Word) : (s.writeWord a v).l = s.l := rfl
@[simp] theorem State.writeWord_f (s : State) (a v : Word) : (s.writeWord a v).f = s.f := rfl
@[simp] theorem State.writeWord_sp (s : State) (a v : Word) : (s.writeWord a v).sp = s.sp := rfl
@[simp] theorem State.writeWord_pc (s : State) (a v : Word) : (s.writeWord a v).pc = s.pc := rfl
@[simp] theorem State.writeWord_mem (s : State) (a v : Word) : (s.writeWord a v).mem = (s.mem.write a (loByte v)).write (a + 1#16) (hiByte v) := rfl
@[simp] theorem State.writeWord_ime (s : State) (a v : Word) : (s.writeWord a v).ime = s.ime := rfl
@[simp] theorem State.writeWord_halt (s : State) (a v : Word) : (s.writeWord a v).halt = s.halt := rfl
@[simp] theorem State.writeWord_cycles (s : State) (a v : Word) : (s.writeWord a v).cycles = s.cycles := rfl
@[simp] theorem State.writeWord_unimpl (s : State) (a v : Word) : (s.writeWord a v).unimpl = s.unimpl := rfl
@[simp] theorem State.writeWord_fault (s : State) (a v : Word) : (s.writeWord a v).fault = s.fault := rfl
@[simp] theorem State.writeWord_draws (s : State) (a v : Word) : (s.writeWord a v).draws = s.draws := rfl

@[simp] theorem State.push16_a (s : State) (v : Word) : (s.push16 v).a = s.a := rfl
@[simp] theorem State.push16_b (s : State) (v : Word) : (s.push16 v).b = s.b := rfl
@[simp] theorem State.push16_c (s : State) (v : Word) : (s.push16 v).c = s.c := rfl
@[simp] theorem State.push16_d (s : State) (v : Word) : (s.push16 v).d = s.d := rfl
@[simp] theorem State.push16_e (s : State) (v : Word) : (s.push16 v).e = s.e := rfl
@[simp] theorem State.push16_h (s : State) (v : Word) : (s.push16 v).h = s.h := rfl
@[simp] theorem State.push16_l (s : State) (v : Word) : (s.push16 v).l = s.l := rfl
@[simp] theorem State.push16_f (s : State) (v : Word) : (s.push16 v).f = s.f := rfl
@[simp] theorem State.push16_sp (s : State) (v : Word) : (s.push16 v).sp = s.sp - 2#16 := rfl
@[simp] theorem State.push16_pc (s : State) (v : Word) : (s.push16 v).pc = s.pc := rfl
@[simp] theorem State.push16_mem (s : State) (v : Word) : (s.push16 v).mem = (s.mem.write (s.sp - 2#16) (loByte v)).write (s.sp - 2#16 + 1#16) (hiByte v) := rfl
@[simp] theorem State.push16_ime (s : State) (v : Word) : (s.push16 v).ime = s.ime := rfl
@[simp] theorem State.push16_halt (s : State) (v : Word) : (s.push16 v).halt = s.halt := rfl
@[simp] theorem State.push16_cycles (s : State) (v : Word) : (s.push16 v).cycles = s.cycles := rfl
@[simp] theorem State.push16_unimpl (s : State) (v : Word) : (s.push16 v).unimpl = s.unimpl := rfl
@[simp] theorem State.push16_fault (s : State) (v : Word) : (s.push16 v).fault = s.fault := rfl
@[simp] theorem State.push16_draws (s : State) (v : Word) : (s.push16 v).draws = s.draws := rfl

@[simp] theorem State.jump_a (s : State) (target : Word) : (s.jump target).a = s.a := rfl
@[simp] theorem State.jump_b (s : State) (target : Word) : (s.jump target).b = s.b := rfl
@[simp] theorem State.jump_c (s : State) (target : Word) : (s.jump target).c = s.c := rfl
@[simp] theorem State.jump_d (s : State) (target : Word) : (s.jump target).d = s.d := rfl
@[simp] theorem State.jump_e (s : State) (target : Word) : (s.jump target).e = s.e := rfl
@[simp] theorem State.jump_h (s : State) (target : Word) : (s.jump target).h = s.h := rfl
@[simp] theorem State.jump_l (s : State) (target : Word) : (s.jump target).l = s.l := rfl
@[simp] theorem State.jump_f (s : State) (target : Word) : (s.jump target).f = s.f := rfl
@[simp] theorem State.jump_sp (s : State) (target : Word) : (s.jump target).sp = s.sp := rfl
@[simp] theorem State.jump_pc (s : State) (target : Word) : (s.jump target).pc = target := rfl
@[simp] theorem State.jump_mem (s : State) (target : Word) : (s.jump target).mem = s.mem := rfl
@[simp] theorem State.jump_ime (s : State) (target : Word) : (s.jump target).ime = s.ime := rfl
@[simp] theorem State.jump_halt (s : State) (target : Word) : (s.jump target).halt = s.halt := rfl
@[simp] theorem State.jump_cycles (s : State) (target : Word) : (s.jump target).cycles = s.cycles := rfl
@[simp] theorem State.jump_unimpl (s : State) (target : Word) : (s.jump target).unimpl = s.unimpl := rfl
@[simp] theorem State.jump_fault (s : State) (target : Word) : (s.jump target).fault = s.fault := rfl
@[simp] theorem State.jump_draws (s : State) (target : Word) : (s.jump target).draws = s.draws := rfl

@[simp] theorem State.callTo_a (s : State) (target : Word) : (s.callTo target).a = s.a := rfl
@[simp] theorem State.callTo_b (s : State) (target : Word) : (s.callTo target).b = s.b := rfl
@[simp] theorem State.callTo_c (s : State) (target : Word) : (s.callTo target).c = s.c := rfl
@[simp] theorem State.callTo_d (s : State) (target : Word) : (s.callTo target).d = s.d := rfl
@[simp] theorem State.callTo_e (s : State) (target : Word) : (s.callTo target).e = s.e := rfl
@[simp] theorem State.callTo_h (s : State) (target : Word) : (s.callTo target).h = s.h := rfl
@[simp] theorem State.callTo_l (s : State) (target : Word) : (s.callTo target).l = s.l := rfl
@[simp] theorem State.callTo_f (s : State) (target : Word) : (s.callTo target).f = s.f := rfl
@[simp] theorem State.callTo_sp (s : State) (target : Word) : (s.callTo target).sp = s.sp - 2#16 := rfl
@[simp] theorem State.callTo_pc (s : State) (target : Word) : (s.callTo target).pc = target := rfl
@[simp] theorem State.callTo_mem (s : State) (target : Word) : (s.callTo target).mem = (s.mem.write (s.sp - 2#16) (loByte s.pc)).write (s.sp - 2#16 + 1#16) (hiByte s.pc) := rfl
@[simp] theorem State.callTo_ime (s : State) (target : Word) : (s.callTo target).ime = s.ime := rfl
@[simp] theorem State.callTo_halt (s : State) (target : Word) : (s.callTo target).halt = s.halt := rfl
@[simp] theorem State.callTo_cycles (s : State) (target : Word) : (s.callTo target).cycles = s.cycles := rfl
@[simp] theorem State.callTo_unimpl (s : State) (target : Word) : (s.callTo target).unimpl = s.unimpl := rfl
@[simp] theorem State.callTo_fault (s : State) (target : Word) : (s.callTo target).fault = s.fault := rfl
@[simp] theorem State.callTo_draws (s : State) (target : Word) : (s.callTo target).draws = s.draws := rfl

@[simp] theorem State.jumpBy_a (s : State) (e : Byte) : (s.jumpBy e).a = s.a := rfl
@[simp] theorem State.jumpBy_b (s : State) (e : Byte) : (s.jumpBy e).b = s.b := rfl
@[simp] theorem State.jumpBy_c (s : State) (e : Byte) : (s.jumpBy e).c = s.c := rfl
@[simp] theorem State.jumpBy_d (s : State) (e : Byte) : (s.jumpBy e).d = s.d := rfl
@[simp] theorem State.jumpBy_e (s : State) (e : Byte) : (s.jumpBy e).e = s.e := rfl
@[simp] theorem State.jumpBy_h (s : State) (e : Byte) : (s.jumpBy e).h = s.h := rfl
@[simp] theorem State.jumpBy_l (s : State) (e : Byte) : (s.jumpBy e).l = s.l := rfl
@[simp] theorem State.jumpBy_f (s : State) (e : Byte) : (s.jumpBy e).f = s.f := rfl
@[simp] theorem State.jumpBy_sp (s : State) (e : Byte) : (s.jumpBy e).sp = s.sp := rfl
@[simp] theorem State.jumpBy_pc (s : State) (e : Byte) : (s.jumpBy e).pc = s.pc + signExtend e := rfl
@[simp] theorem State.jumpBy_mem (s : State) (e : Byte) : (s.jumpBy e).mem = s.mem := rfl
@[simp] theorem State.jumpBy_ime (s : State) (e : Byte) : (s.jumpBy e).ime = s.ime := rfl
@[simp] theorem State.jumpBy_halt (s : State) (e : Byte) : (s.jumpBy e).halt = s.halt := rfl
@[simp] theorem State.jumpBy_cycles (s : State) (e : Byte) : (s.jumpBy e).cycles = s.cycles := rfl
@[simp] theorem State.jumpBy_unimpl (s : State) (e : Byte) : (s.jumpBy e).unimpl = s.unimpl := rfl
@[simp] theorem State.jumpBy_fault (s : State) (e : Byte) : (s.jumpBy e).fault = s.fault := rfl
@[simp] theorem State.jumpBy_draws (s : State) (e : Byte) : (s.jumpBy e).draws = s.draws := rfl

@[simp] theorem State.popPc_a (s : State) : s.popPc.a = s.a := rfl
@[simp] theorem State.popPc_b (s : State) : s.popPc.b = s.b := rfl
@[simp] theorem State.popPc_c (s : State) : s.popPc.c = s.c := rfl
@[simp] theorem State.popPc_d (s : State) : s.popPc.d = s.d := rfl
@[simp] theorem State.popPc_e (s : State) : s.popPc.e = s.e := rfl
@[simp] theorem State.popPc_h (s : State) : s.popPc.h = s.h := rfl
@[simp] theorem State.popPc_l (s : State) : s.popPc.l = s.l := rfl
@[simp] theorem State.popPc_f (s : State) : s.popPc.f = s.f := rfl
@[simp] theorem State.popPc_sp (s : State) : s.popPc.sp = s.sp + 2#16 := rfl
@[simp] theorem State.popPc_pc (s : State) : s.popPc.pc = s.readWord s.sp := rfl
@[simp] theorem State.popPc_mem (s : State) : s.popPc.mem = s.mem := rfl
@[simp] theorem State.popPc_ime (s : State) : s.popPc.ime = s.ime := rfl
@[simp] theorem State.popPc_halt (s : State) : s.popPc.halt = s.halt := rfl
@[simp] theorem State.popPc_cycles (s : State) : s.popPc.cycles = s.cycles := rfl
@[simp] theorem State.popPc_unimpl (s : State) : s.popPc.unimpl = s.unimpl := rfl
@[simp] theorem State.popPc_fault (s : State) : s.popPc.fault = s.fault := rfl
@[simp] theorem State.popPc_draws (s : State) : s.popPc.draws = s.draws := rfl

@[simp] theorem State.addCycles_a (s : State) (n : Nat) : (s.addCycles n).a = s.a := rfl
@[simp] theorem State.addCycles_b (s : State) (n : Nat) : (s.addCycles n).b = s.b := rfl
@[simp] theorem State.addCycles_c (s : State) (n : Nat) : (s.addCycles n).c = s.c := rfl
@[simp] theorem State.addCycles_d (s : State) (n : Nat) : (s.addCycles n).d = s.d := rfl
@[simp] theorem State.addCycles_e (s : State) (n : Nat) : (s.addCycles n).e = s.e := rfl
@[simp] theorem State.addCycles_h (s : State) (n : Nat) : (s.addCycles n).h = s.h := rfl
@[simp] theorem State.addCycles_l (s : State) (n : Nat) : (s.addCycles n).l = s.l := rfl
@[simp] theorem State.addCycles_f (s : State) (n : Nat) : (s.addCycles n).f = s.f := rfl
@[simp] theorem State.addCycles_sp (s : State) (n : Nat) : (s.addCycles n).sp = s.sp := rfl
@[simp] theorem State.addCycles_pc (s : State) (n : Nat) : (s.addCycles n).pc = s.pc := rfl
@[simp] theorem State.addCycles_mem (s : State) (n : Nat) : (s.addCycles n).mem = s.mem := rfl
@[simp] theorem State.addCycles_ime (s : State) (n : Nat) : (s.addCycles n).ime = s.ime := rfl
@[simp] theorem State.addCycles_halt (s : State) (n : Nat) : (s.addCycles n).halt = s.halt := rfl
@[simp] theorem State.addCycles_cycles (s : State) (n : Nat) : (s.addCycles n).cycles = s.cycles + n := rfl
@[simp] theorem State.addCycles_unimpl (s : State) (n : Nat) : (s.addCycles n).unimpl = s.unimpl := rfl
@[simp] theorem State.addCycles_fault (s : State) (n : Nat) : (s.addCycles n).fault = s.fault := rfl
@[simp] theorem State.addCycles_draws (s : State) (n : Nat) : (s.addCycles n).draws = s.draws := rfl

@[simp] theorem State.advance_a (s : State) (n : Nat) : (s.advance n).a = s.a := rfl
@[simp] theorem State.advance_b (s : State) (n : Nat) : (s.advance n).b = s.b := rfl
@[simp] theorem State.advance_c (s : State) (n : Nat) : (s.advance n).c = s.c := rfl
@[simp] theorem State.advance_d (s : State) (n : Nat) : (s.advance n).d = s.d := rfl
@[simp] theorem State.advance_e (s : State) (n : Nat) : (s.advance n).e = s.e := rfl
@[simp] theorem State.advance_h (s : State) (n : Nat) : (s.advance n).h = s.h := rfl
@[simp] theorem State.advance_l (s : State) (n : Nat) : (s.advance n).l = s.l := rfl
@[simp] theorem State.advance_f (s : State) (n : Nat) : (s.advance n).f = s.f := rfl
@[simp] theorem State.advance_sp (s : State) (n : Nat) : (s.advance n).sp = s.sp := rfl
@[simp] theorem State.advance_pc (s : State) (n : Nat) : (s.advance n).pc = s.pc + BitVec.ofNat 16 n := rfl
@[simp] theorem State.advance_mem (s : State) (n : Nat) : (s.advance n).mem = s.mem := rfl
@[simp] theorem State.advance_ime (s : State) (n : Nat) : (s.advance n).ime = s.ime := rfl
@[simp] theorem State.advance_halt (s : State) (n : Nat) : (s.advance n).halt = s.halt := rfl
@[simp] theorem State.advance_cycles (s : State) (n : Nat) : (s.advance n).cycles = s.cycles := rfl
@[simp] theorem State.advance_unimpl (s : State) (n : Nat) : (s.advance n).unimpl = s.unimpl := rfl
@[simp] theorem State.advance_fault (s : State) (n : Nat) : (s.advance n).fault = s.fault := rfl
@[simp] theorem State.advance_draws (s : State) (n : Nat) : (s.advance n).draws = s.draws := rfl

@[simp] theorem State.setFlag_a (s : State) (x : Flag) (v : Bool) : (s.setFlag x v).a = s.a := rfl
@[simp] theorem State.setFlag_b (s : State) (x : Flag) (v : Bool) : (s.setFlag x v).b = s.b := rfl
@[simp] theorem State.setFlag_c (s : State) (x : Flag) (v : Bool) : (s.setFlag x v).c = s.c := rfl
@[simp] theorem State.setFlag_d (s : State) (x : Flag) (v : Bool) : (s.setFlag x v).d = s.d := rfl
@[simp] theorem State.setFlag_e (s : State) (x : Flag) (v : Bool) : (s.setFlag x v).e = s.e := rfl
@[simp] theorem State.setFlag_h (s : State) (x : Flag) (v : Bool) : (s.setFlag x v).h = s.h := rfl
@[simp] theorem State.setFlag_l (s : State) (x : Flag) (v : Bool) : (s.setFlag x v).l = s.l := rfl
@[simp] theorem State.setFlag_f (s : State) (x : Flag) (v : Bool) : (s.setFlag x v).f = putFlag s.f x v := rfl
@[simp] theorem State.setFlag_sp (s : State) (x : Flag) (v : Bool) : (s.setFlag x v).sp = s.sp := rfl
@[simp] theorem State.setFlag_pc (s : State) (x : Flag) (v : Bool) : (s.setFlag x v).pc = s.pc := rfl
@[simp] theorem State.setFlag_mem (s : State) (x : Flag) (v : Bool) : (s.setFlag x v).mem = s.mem := rfl
@[simp] theorem State.setFlag_ime (s : State) (x : Flag) (v : Bool) : (s.setFlag x v).ime = s.ime := rfl
@[simp] theorem State.setFlag_halt (s : State) (x : Flag) (v : Bool) : (s.setFlag x v).halt = s.halt := rfl
@[simp] theorem State.setFlag_cycles (s : State) (x : Flag) (v : Bool) : (s.setFlag x v).cycles = s.cycles := rfl
@[simp] theorem State.setFlag_unimpl (s : State) (x : Flag) (v : Bool) : (s.setFlag x v).unimpl = s.unimpl := rfl
@[simp] theorem State.setFlag_fault (s : State) (x : Flag) (v : Bool) : (s.setFlag x v).fault = s.fault := rfl
@[simp] theorem State.setFlag_draws (s : State) (x : Flag) (v : Bool) : (s.setFlag x v).draws = s.draws := rfl

@[simp] theorem State.setFlags_a (s : State) (z n h c : Bool) : (s.setFlags z n h c).a = s.a := rfl
@[simp] theorem State.setFlags_b (s : State) (z n h c : Bool) : (s.setFlags z n h c).b = s.b := rfl
@[simp] theorem State.setFlags_c (s : State) (z n h c : Bool) : (s.setFlags z n h c).c = s.c := rfl
@[simp] theorem State.setFlags_d (s : State) (z n h c : Bool) : (s.setFlags z n h c).d = s.d := rfl
@[simp] theorem State.setFlags_e (s : State) (z n h c : Bool) : (s.setFlags z n h c).e = s.e := rfl
@[simp] theorem State.setFlags_h (s : State) (z n h c : Bool) : (s.setFlags z n h c).h = s.h := rfl
@[simp] theorem State.setFlags_l (s : State) (z n h c : Bool) : (s.setFlags z n h c).l = s.l := rfl
@[simp] theorem State.setFlags_f (s : State) (z n h c : Bool) : (s.setFlags z n h c).f = putFlag (putFlag (putFlag (putFlag s.f .z z) .n n) .h h) .c c := rfl
@[simp] theorem State.setFlags_sp (s : State) (z n h c : Bool) : (s.setFlags z n h c).sp = s.sp := rfl
@[simp] theorem State.setFlags_pc (s : State) (z n h c : Bool) : (s.setFlags z n h c).pc = s.pc := rfl
@[simp] theorem State.setFlags_mem (s : State) (z n h c : Bool) : (s.setFlags z n h c).mem = s.mem := rfl
@[simp] theorem State.setFlags_ime (s : State) (z n h c : Bool) : (s.setFlags z n h c).ime = s.ime := rfl
@[simp] theorem State.setFlags_halt (s : State) (z n h c : Bool) : (s.setFlags z n h c).halt = s.halt := rfl
@[simp] theorem State.setFlags_cycles (s : State) (z n h c : Bool) : (s.setFlags z n h c).cycles = s.cycles := rfl
@[simp] theorem State.setFlags_unimpl (s : State) (z n h c : Bool) : (s.setFlags z n h c).unimpl = s.unimpl := rfl
@[simp] theorem State.setFlags_fault (s : State) (z n h c : Bool) : (s.setFlags z n h c).fault = s.fault := rfl
@[simp] theorem State.setFlags_draws (s : State) (z n h c : Bool) : (s.setFlags z n h c).draws = s.draws := rfl

@[simp] theorem State.setZnh_a (s : State) (z n h : Bool) : (s.setZnh z n h).a = s.a := rfl
@[simp] theorem State.setZnh_b (s : State) (z n h : Bool) : (s.setZnh z n h).b = s.b := rfl
@[simp] theorem State.setZnh_c (s : State) (z n h : Bool) : (s.setZnh z n h).c = s.c := rfl
@[simp] theorem State.setZnh_d (s : State) (z n h : Bool) : (s.setZnh z n h).d = s.d := rfl
@[simp] theorem State.setZnh_e (s : State) (z n h : Bool) : (s.setZnh z n h).e = s.e := rfl
@[simp] theorem State.setZnh_h (s : State) (z n h : Bool) : (s.setZnh z n h).h = s.h := rfl
@[simp] theorem State.setZnh_l (s : State) (z n h : Bool) : (s.setZnh z n h).l = s.l := rfl
@[simp] theorem State.setZnh_f (s : State) (z n h : Bool) : (s.setZnh z n h).f = putFlag (putFlag (putFlag s.f .z z) .n n) .h h := rfl
@[simp] theorem State.setZnh_sp (s : State) (z n h : Bool) : (s.setZnh z n h).sp = s.sp := rfl
@[simp] theorem State.setZnh_pc (s : State) (z n h : Bool) : (s.setZnh z n h).pc = s.pc := rfl
@[simp] theorem State.setZnh_mem (s : State) (z n h : Bool) : (s.setZnh z n h).mem = s.mem := rfl
@[simp] theorem State.setZnh_ime (s : State) (z n h : Bool) : (s.setZnh z n h).ime = s.ime := rfl
@[simp] theorem State.setZnh_halt (s : State) (z n h : Bool) : (s.setZnh z n h).halt = s.halt := rfl
@[simp] theorem State.setZnh_cycles (s : State) (z n h : Bool) : (s.setZnh z n h).cycles = s.cycles := rfl
@[simp] theorem State.setZnh_unimpl (s : State) (z n h : Bool) : (s.setZnh z n h).unimpl = s.unimpl := rfl
@[simp] theorem State.setZnh_fault (s : State) (z n h : Bool) : (s.setZnh z n h).fault = s.fault := rfl
@[simp] theorem State.setZnh_draws (s : State) (z n h : Bool) : (s.setZnh z n h).draws = s.draws := rfl

@[simp] theorem State.setNhc_a (s : State) (n h c : Bool) : (s.setNhc n h c).a = s.a := rfl
@[simp] theorem State.setNhc_b (s : State) (n h c : Bool) : (s.setNhc n h c).b = s.b := rfl
@[simp] theorem State.setNhc_c (s : State) (n h c : Bool) : (s.setNhc n h c).c = s.c := rfl
@[simp] theorem State.setNhc_d (s : State) (n h c : Bool) : (s.setNhc n h c).d = s.d := rfl
@[simp] theorem State.setNhc_e (s : State) (n h c : Bool) : (s.setNhc n h c).e = s.e := rfl
@[simp] theorem State.setNhc_h (s : State) (n h c : Bool) : (s.setNhc n h c).h = s.h := rfl
@[simp] theorem State.setNhc_l (s : State) (n h c : Bool) : (s.setNhc n h c).l = s.l := rfl
@[simp] theorem State.setNhc_f (s : State) (n h c : Bool) : (s.setNhc n h c).f = putFlag (putFlag (putFlag s.f .n n) .h h) .c c := rfl
@[simp] theorem State.setNhc_sp (s : State) (n h c : Bool) : (s.setNhc n h c).sp = s.sp := rfl
@[simp] theorem State.setNhc_pc (s : State) (n h c : Bool) : (s.setNhc n h c).pc = s.pc := rfl
@[simp] theorem State.setNhc_mem (s : State) (n h c : Bool) : (s.setNhc n h c).mem = s.mem := rfl
@[simp] theorem State.setNhc_ime (s : State) (n h c : Bool) : (s.setNhc n h c).ime = s.ime := rfl
@[simp] theorem State.setNhc_halt (s : State) (n h c : Bool) : (s.setNhc n h c).halt = s.halt := rfl
@[simp] theorem State.setNhc_cycles (s : State) (n h c : Bool) : (s.setNhc n h c).cycles = s.cycles := rfl
@[simp] theorem State.setNhc_unimpl (s : State) (n h c : Bool) : (s.setNhc n h c).unimpl = s.unimpl := rfl
@[simp] theorem State.setNhc_fault (s : State) (n h c : Bool) : (s.setNhc n h c).fault = s.fault := rfl
@[simp] theorem State.setNhc_draws (s : State) (n h c : Bool) : (s.setNhc n h c).draws = s.draws := rfl

@[simp] theorem State.setReg8_f (s : State) (r : Reg8) (v : Byte) : (s.setReg8 r v).f = s.f := by
  cases r <;> rfl
@[simp] theorem State.setReg8_sp (s : State) (r : Reg8) (v : Byte) : (s.setReg8 r v).sp = s.sp := by
  cases r <;> rfl
@[simp] theorem State.setReg8_pc (s : State) (r : Reg8) (v : Byte) : (s.setReg8 r v).pc = s.pc := by
  cases r <;> rfl
@[simp] theorem State.setReg8_mem (s : State) (r : Reg8) (v : Byte) : (s.setReg8 r v).mem = s.mem := by
  cases r <;> rfl
@[simp] theorem State.setReg8_ime (s : State) (r : Reg8) (v : Byte) : (s.setReg8 r v).ime = s.ime := by
  cases r <;> rfl
@[simp] theorem State.setReg8_halt (s : State) (r : Reg8) (v : Byte) : (s.setReg8 r v).halt = s.halt := by
  cases r <;> rfl
@[simp] theorem State.setReg8_cycles (s : State) (r : Reg8) (v : Byte) : (s.setReg8 r v).cycles = s.cycles := by
  cases r <;> rfl
@[simp] theorem State.setReg8_unimpl (s : State) (r : Reg8) (v : Byte) : (s.setReg8 r v).unimpl = s.unimpl := by
  cases r <;> rfl
@[simp] theorem State.setReg8_fault (s : State) (r : Reg8) (v : Byte) : (s.setReg8 r v).fault = s.fault := by
  cases r <;> rfl
@[simp] theorem State.setReg8_draws (s : State) (r : Reg8) (v : Byte) : (s.setReg8 r v).draws = s.draws := by
  cases r <;> rfl

@[simp] theorem State.setReg16_a (s : State) (p : Reg16) (v : Word) : (s.setReg16 p v).a = s.a := by
  cases p <;> rfl
@[simp] theorem State.setReg16_f (s : State) (p : Reg16) (v : Word) : (s.setReg16 p v).f = s.f := by
  cases p <;> rfl
@[simp] theorem State.setReg16_pc (s : State) (p : Reg16) (v : Word) : (s.setReg16 p v).pc = s.pc := by
  cases p <;> rfl
@[simp] theorem State.setReg16_mem (s : State) (p : Reg16) (v : Word) : (s.setReg16 p v).mem = s.mem := by
  cases p <;> rfl
@[simp] theorem State.setReg16_ime (s : State) (p : Reg16) (v : Word) : (s.setReg16 p v).ime = s.ime := by
  cases p <;> rfl
@[simp] theorem State.setReg16_halt (s : State) (p : Reg16) (v : Word) : (s.setReg16 p v).halt = s.halt := by
  cases p <;> rfl
@[simp] theorem State.setReg16_cycles (s : State) (p : Reg16) (v : Word) : (s.setReg16 p v).cycles = s.cycles := by
  cases p <;> rfl
@[simp] theorem State.setReg16_unimpl (s : State) (p : Reg16) (v : Word) : (s.setReg16 p v).unimpl = s.unimpl := by
  cases p <;> rfl
@[simp] theorem State.setReg16_fault (s : State) (p : Reg16) (v : Word) : (s.setReg16 p v).fault = s.fault := by
  cases p <;> rfl
@[simp] theorem State.setReg16_draws (s : State) (p : Reg16) (v : Word) : (s.setReg16 p v).draws = s.draws := by
  cases p <;> rfl

@[simp] theorem State.setStackPair_sp (s : State) (p : StackPair) (v : Word) : (s.setStackPair p v).sp = s.sp := by
  cases p <;> rfl
@[simp] theorem State.setStackPair_pc (s : State) (p : StackPair) (v : Word) : (s.setStackPair p v).pc = s.pc := by
  cases p <;> rfl
@[simp] theorem State.setStackPair_mem (s : State) (p : StackPair) (v : Word) : (s.setStackPair p v).mem = s.mem := by
  cases p <;> rfl
@[simp] theorem State.setStackPair_ime (s : State) (p : StackPair) (v : Word) : (s.setStackPair p v).ime = s.ime := by
  cases p <;> rfl
@[simp] theorem State.setStackPair_halt (s : State) (p : StackPair) (v : Word) : (s.setStackPair p v).halt = s.halt := by
  cases p <;> rfl
@[simp] theorem State.setStackPair_cycles (s : State) (p : StackPair) (v : Word) : (s.setStackPair p v).cycles = s.cycles := by
  cases p <;> rfl
@[simp] theorem State.setStackPair_unimpl (s : State) (p : StackPair) (v : Word) : (s.setStackPair p v).unimpl = s.unimpl := by
  cases p <;> rfl
@[simp] theorem State.setStackPair_fault (s : State) (p : StackPair) (v : Word) : (s.setStackPair p v).fault = s.fault := by
  cases p <;> rfl
@[simp] theorem State.setStackPair_draws (s : State) (p : StackPair) (v : Word) : (s.setStackPair p v).draws = s.draws := by
  cases p <;> rfl

@[simp] theorem State.write8_f (s : State) (x : Operand8) (v : Byte) : (s.write8 x v).f = s.f := by
  rcases x with r | _ <;> [cases r; skip] <;> rfl
@[simp] theorem State.write8_sp (s : State) (x : Operand8) (v : Byte) : (s.write8 x v).sp = s.sp := by
  rcases x with r | _ <;> [cases r; skip] <;> rfl
@[simp] theorem State.write8_pc (s : State) (x : Operand8) (v : Byte) : (s.write8 x v).pc = s.pc := by
  rcases x with r | _ <;> [cases r; skip] <;> rfl
@[simp] theorem State.write8_ime (s : State) (x : Operand8) (v : Byte) : (s.write8 x v).ime = s.ime := by
  rcases x with r | _ <;> [cases r; skip] <;> rfl
@[simp] theorem State.write8_halt (s : State) (x : Operand8) (v : Byte) : (s.write8 x v).halt = s.halt := by
  rcases x with r | _ <;> [cases r; skip] <;> rfl
@[simp] theorem State.write8_cycles (s : State) (x : Operand8) (v : Byte) : (s.write8 x v).cycles = s.cycles := by
  rcases x with r | _ <;> [cases r; skip] <;> rfl
@[simp] theorem State.write8_unimpl (s : State) (x : Operand8) (v : Byte) : (s.write8 x v).unimpl = s.unimpl := by
  rcases x with r | _ <;> [cases r; skip] <;> rfl
@[simp] theorem State.write8_fault (s : State) (x : Operand8) (v : Byte) : (s.write8 x v).fault = s.fault := by
  rcases x with r | _ <;> [cases r; skip] <;> rfl
@[simp] theorem State.write8_draws (s : State) (x : Operand8) (v : Byte) : (s.write8 x v).draws = s.draws := by
  rcases x with r | _ <;> [cases r; skip] <;> rfl

@[simp] theorem State.raiseUnimplemented_a (s : State) (policy : UnimplPolicy) (op : Byte) : (s.raiseUnimplemented policy op).a = s.a := by
  cases policy <;> rfl
@[simp] theorem State.raiseUnimplemented_b (s : State) (policy : UnimplPolicy) (op : Byte) : (s.raiseUnimplemented policy op).b = s.b := by
  cases policy <;> rfl
@[simp] theorem State.raiseUnimplemented_c (s : State) (policy : UnimplPolicy) (op : Byte) : (s.raiseUnimplemented policy op).c = s.c := by
  cases policy <;> rfl
@[simp] theorem State.raiseUnimplemented_d (s : State) (policy : UnimplPolicy) (op : Byte) : (s.raiseUnimplemented policy op).d = s.d := by
  cases policy <;> rfl
@[simp] theorem State.raiseUnimplemented_e (s : State) (policy : UnimplPolicy) (op : Byte) : (s.raiseUnimplemented policy op).e = s.e := by
  cases policy <;> rfl
@[simp] theorem State.raiseUnimplemented_h (s : State) (policy : UnimplPolicy) (op : Byte) : (s.raiseUnimplemented policy op).h = s.h := by
  cases policy <;> rfl
@[simp] theorem State.raiseUnimplemented_l (s : State) (policy : UnimplPolicy) (op : Byte) : (s.raiseUnimplemented policy op).l = s.l := by
  cases policy <;> rfl
@[simp] theorem State.raiseUnimplemented_f (s : State) (policy : UnimplPolicy) (op : Byte) : (s.raiseUnimplemented policy op).f = s.f := by
  cases policy <;> rfl
@[simp] theorem State.raiseUnimplemented_sp (s : State) (policy : UnimplPolicy) (op : Byte) : (s.raiseUnimplemented policy op).sp = s.sp := by
  cases policy <;> rfl
@[simp] theorem State.raiseUnimplemented_pc (s : State) (policy : UnimplPolicy) (op : Byte) : (s.raiseUnimplemented policy op).pc = s.pc := by
  cases policy <;> rfl
@[simp] theorem State.raiseUnimplemented_mem (s : State) (policy : UnimplPolicy) (op : Byte) : (s.raiseUnimplemented policy op).mem = s.mem := by
  cases policy <;> rfl
@[simp] theorem State.raiseUnimplemented_ime (s : State) (policy : UnimplPolicy) (op : Byte) : (s.raiseUnimplemented policy op).ime = s.ime := by
  cases policy <;> rfl
@[simp] theorem State.raiseUnimplemented_halt (s : State) (policy : UnimplPolicy) (op : Byte) : (s.raiseUnimplemented policy op).halt = s.halt := by
  cases policy <;> rfl

/-- A register reads as it was last written; the six others are unchanged. -/
@[simp] theorem State.reg8_setReg8 (s : State) (r r' : Reg8) (v : Byte) :
    (s.setReg8 r v).reg8 r' = if r' = r then v else s.reg8 r' := by
  cases r <;> cases r' <;> rfl

/-- A flag depends on F only. -/
theorem State.flag_congr {s t : State} (h : t.f = s.f) (x : Flag) : t.flag x = s.flag x := by
  simp only [State.flag, h]

/-- A byte read depends on memory only. -/
theorem State.readByte_congr {s t : State} (h : t.mem = s.mem) (a : Word) : t.readByte a = s.readByte a := by
  simp only [State.readByte, h]

end Sys2Proof.Machine
end

