-- ==== Sys2Proof/Laws/Ops.lean ====
section
/-! SUPPORT. What the shared operations over registers and memory do: one lemma for each. -/

namespace Sys2Proof.Machine

@[simp] theorem State.readByte_writeByte (s : State) (a b : Word) (v : Byte) :
    (s.writeByte a v).readByte b = if b = a then v else s.readByte b :=
  Memory.read_write s.mem a b v

theorem Word.add_one_ne (a : Word) : a + 1#16 ≠ a := by
  intro h
  have := congrArg BitVec.toNat h
  have := a.isLt
  simp only [BitVec.toNat_add, BitVec.toNat_ofNat] at *
  omega

/-- Every byte after `write_word` (`20_memory.md` R46). -/
theorem State.readByte_writeWord (s : State) (a v b : Word) :
    (s.writeWord a v).readByte b =
      if b = a + 1#16 then hiByte v else if b = a then loByte v else s.readByte b := by
  simp [State.writeWord]

/-- A word read at the address of the last word write (`20_memory.md` R45, R46). -/
theorem State.readWord_writeWord (s : State) (a v : Word) : (s.writeWord a v).readWord a = v := by
  simp [State.readWord, State.readByte_writeWord, (Word.add_one_ne a).symm]

/-- Every byte after `Push16` (`40_loads.md` R102). -/
theorem State.readByte_push16 (s : State) (v b : Word) :
    (s.push16 v).readByte b =
      if b = s.sp - 2#16 + 1#16 then hiByte v else if b = s.sp - 2#16 then loByte v else s.readByte b := by
  unfold State.push16
  exact State.readByte_writeWord _ _ _ _

/-- The word a pop takes right after a push (`40_loads.md` R103). -/
theorem State.readWord_push16 (s : State) (v : Word) : (s.push16 v).readWord (s.push16 v).sp = v :=
  State.readWord_writeWord _ _ _

/-- Writing an operand `r8` and reading it again, for every operand (`00_scope.md` R9). -/
theorem State.read8_write8 (s : State) (x : Operand8) (v : Byte) : (s.write8 x v).read8 x = v := by
  rcases x with r | _
  · simp [State.write8, State.read8]
  · show (s.writeByte s.hl v).readByte s.hl = v
    simp

/-- The canonical form of memory is kept by every named update that stores. -/
theorem State.writeByte_wf {s : State} (h : s.mem.wf) (a : Word) (v : Byte) : (s.writeByte a v).mem.wf :=
  Memory.wf_write h a v

theorem State.writeWord_wf {s : State} (h : s.mem.wf) (a v : Word) : (s.writeWord a v).mem.wf :=
  Memory.wf_write (Memory.wf_write h _ _) _ _

theorem State.push16_wf {s : State} (h : s.mem.wf) (v : Word) : (s.push16 v).mem.wf :=
  Memory.wf_write (Memory.wf_write h _ _) _ _

theorem State.write8_wf {s : State} (h : s.mem.wf) (x : Operand8) (v : Byte) : (s.write8 x v).mem.wf := by
  rcases x with r | _
  · cases r <;> exact h
  · exact Memory.wf_write h _ _

theorem State.writeBytes_wf {s : State} (h : s.mem.wf) (a : Word) (bytes : List Byte) : (s.writeBytes a bytes).mem.wf := by
  induction bytes generalizing s a with
  | nil => exact h
  | cons v rest ih => exact ih (State.writeByte_wf h a v) _

/-- `writeBytes` changes memory only. -/
theorem State.writeBytes_eq (s : State) (a : Word) (bytes : List Byte) :
    s.writeBytes a bytes = { s with mem := (s.writeBytes a bytes).mem } := by
  induction bytes generalizing s a with
  | nil => rfl
  | cons v rest ih =>
    show (s.writeByte a v).writeBytes _ rest = _
    rw [ih]
    rfl

end Sys2Proof.Machine
end

