-- ==== Sys2Proof/Laws/Views.lean ====
section
/-! SUPPORT. What the views of a state (a flag, a general register, a byte of memory) are after every named update that does
not write them. Proofs rewrite with these and never unfold an update. -/

namespace Sys2Proof.Machine

@[simp] theorem State.flag_addCycles (s : State) (n : Nat) (x : Flag) : (s.addCycles n).flag x = s.flag x := rfl
@[simp] theorem State.flag_setBc (s : State) (v : Word) (x : Flag) : (s.setBc v).flag x = s.flag x := rfl
@[simp] theorem State.flag_setDe (s : State) (v : Word) (x : Flag) : (s.setDe v).flag x = s.flag x := rfl
@[simp] theorem State.flag_setHl (s : State) (v : Word) (x : Flag) : (s.setHl v).flag x = s.flag x := rfl
@[simp] theorem State.flag_setReg8 (s : State) (q : Reg8) (v : Byte) (x : Flag) : (s.setReg8 q v).flag x = s.flag x := by cases q <;> rfl
@[simp] theorem State.flag_setReg16 (s : State) (p : Reg16) (v : Word) (x : Flag) : (s.setReg16 p v).flag x = s.flag x := by cases p <;> rfl
@[simp] theorem State.flag_writeByte (s : State) (b : Word) (v : Byte) (x : Flag) : (s.writeByte b v).flag x = s.flag x := rfl
@[simp] theorem State.flag_writeWord (s : State) (b v : Word) (x : Flag) : (s.writeWord b v).flag x = s.flag x := rfl
@[simp] theorem State.flag_push16 (s : State) (v : Word) (x : Flag) : (s.push16 v).flag x = s.flag x := rfl
@[simp] theorem State.flag_write8 (s : State) (o : Operand8) (v : Byte) (x : Flag) : (s.write8 o v).flag x = s.flag x := by rcases o with ⟨_ | _ | _ | _ | _ | _ | _⟩ | _ <;> rfl
@[simp] theorem State.flag_jump (s : State) (target : Word) (x : Flag) : (s.jump target).flag x = s.flag x := rfl
@[simp] theorem State.flag_jumpBy (s : State) (e : Byte) (x : Flag) : (s.jumpBy e).flag x = s.flag x := rfl
@[simp] theorem State.flag_popPc (s : State) (x : Flag) : (s.popPc).flag x = s.flag x := rfl
@[simp] theorem State.flag_callTo (s : State) (target : Word) (x : Flag) : (s.callTo target).flag x = s.flag x := rfl
@[simp] theorem State.flag_advance (s : State) (n : Nat) (x : Flag) : (s.advance n).flag x = s.flag x := rfl

@[simp] theorem State.reg8_addCycles (s : State) (n : Nat) (r : Reg8) : (s.addCycles n).reg8 r = s.reg8 r := by cases r <;> rfl
@[simp] theorem State.reg8_setFlag (s : State) (y : Flag) (v : Bool) (r : Reg8) : (s.setFlag y v).reg8 r = s.reg8 r := by cases r <;> rfl
@[simp] theorem State.reg8_setFlags (s : State) (z n h c : Bool) (r : Reg8) : (s.setFlags z n h c).reg8 r = s.reg8 r := by cases r <;> rfl
@[simp] theorem State.reg8_setZnh (s : State) (z n h : Bool) (r : Reg8) : (s.setZnh z n h).reg8 r = s.reg8 r := by cases r <;> rfl
@[simp] theorem State.reg8_setNhc (s : State) (n h c : Bool) (r : Reg8) : (s.setNhc n h c).reg8 r = s.reg8 r := by cases r <;> rfl
@[simp] theorem State.reg8_writeByte (s : State) (b : Word) (v : Byte) (r : Reg8) : (s.writeByte b v).reg8 r = s.reg8 r := by cases r <;> rfl
@[simp] theorem State.reg8_writeWord (s : State) (b v : Word) (r : Reg8) : (s.writeWord b v).reg8 r = s.reg8 r := by cases r <;> rfl
@[simp] theorem State.reg8_push16 (s : State) (v : Word) (r : Reg8) : (s.push16 v).reg8 r = s.reg8 r := by cases r <;> rfl
@[simp] theorem State.reg8_jump (s : State) (target : Word) (r : Reg8) : (s.jump target).reg8 r = s.reg8 r := by cases r <;> rfl
@[simp] theorem State.reg8_jumpBy (s : State) (e : Byte) (r : Reg8) : (s.jumpBy e).reg8 r = s.reg8 r := by cases r <;> rfl
@[simp] theorem State.reg8_popPc (s : State) (r : Reg8) : (s.popPc).reg8 r = s.reg8 r := by cases r <;> rfl
@[simp] theorem State.reg8_callTo (s : State) (target : Word) (r : Reg8) : (s.callTo target).reg8 r = s.reg8 r := by cases r <;> rfl
@[simp] theorem State.reg8_advance (s : State) (n : Nat) (r : Reg8) : (s.advance n).reg8 r = s.reg8 r := by cases r <;> rfl

@[simp] theorem State.readByte_addCycles (s : State) (n : Nat) (a : Word) : (s.addCycles n).readByte a = s.readByte a := rfl
@[simp] theorem State.readByte_setFlag (s : State) (y : Flag) (v : Bool) (a : Word) : (s.setFlag y v).readByte a = s.readByte a := rfl
@[simp] theorem State.readByte_setFlags (s : State) (z n h c : Bool) (a : Word) : (s.setFlags z n h c).readByte a = s.readByte a := rfl
@[simp] theorem State.readByte_setZnh (s : State) (z n h : Bool) (a : Word) : (s.setZnh z n h).readByte a = s.readByte a := rfl
@[simp] theorem State.readByte_setNhc (s : State) (n h c : Bool) (a : Word) : (s.setNhc n h c).readByte a = s.readByte a := rfl
@[simp] theorem State.readByte_setBc (s : State) (v : Word) (a : Word) : (s.setBc v).readByte a = s.readByte a := rfl
@[simp] theorem State.readByte_setDe (s : State) (v : Word) (a : Word) : (s.setDe v).readByte a = s.readByte a := rfl
@[simp] theorem State.readByte_setHl (s : State) (v : Word) (a : Word) : (s.setHl v).readByte a = s.readByte a := rfl
@[simp] theorem State.readByte_setAf (s : State) (v : Word) (a : Word) : (s.setAf v).readByte a = s.readByte a := rfl
@[simp] theorem State.readByte_setReg8 (s : State) (q : Reg8) (v : Byte) (a : Word) : (s.setReg8 q v).readByte a = s.readByte a := by cases q <;> rfl
@[simp] theorem State.readByte_setReg16 (s : State) (p : Reg16) (v : Word) (a : Word) : (s.setReg16 p v).readByte a = s.readByte a := by cases p <;> rfl
@[simp] theorem State.readByte_setStackPair (s : State) (p : StackPair) (v : Word) (a : Word) : (s.setStackPair p v).readByte a = s.readByte a := by cases p <;> rfl
@[simp] theorem State.readByte_jump (s : State) (target : Word) (a : Word) : (s.jump target).readByte a = s.readByte a := rfl
@[simp] theorem State.readByte_jumpBy (s : State) (e : Byte) (a : Word) : (s.jumpBy e).readByte a = s.readByte a := rfl
@[simp] theorem State.readByte_popPc (s : State) (a : Word) : (s.popPc).readByte a = s.readByte a := rfl
@[simp] theorem State.readByte_advance (s : State) (n : Nat) (a : Word) : (s.advance n).readByte a = s.readByte a := rfl

end Sys2Proof.Machine
end

