-- ==== Sys2Proof/Laws/Step.lean ====
section
/-! SUPPORT. What a step and an execution can do, said once: a step is one of four cases, an execution always answers a next
state, and a run is a step followed by a run. -/

namespace Sys2Proof.Machine

theorem step_of_fault {s : State} {reason : Fault} (h : s.fault = some reason) : step s = .fault reason := by
  simp [step, h]

theorem step_of_halt {s : State} (hf : s.fault = none) (hh : s.halt = true) : step s = .next (s.addCycles 4) := by
  simp [step, hf, hh, State.haltedCycle]

theorem step_of_running {s : State} (hf : s.fault = none) (hh : s.halt = false) :
    step s = exec s.fetched.1 (s.advance s.fetched.2) := by
  simp [step, hf, hh, State.afterFetch]

/-- Everything a step that answers a next state can have done (`60_exceptions.md` R168). -/
theorem step_cases {s t : State} (h : step s = .next t) :
    s.fault = none ∧
      ((s.halt = true ∧ t = s.addCycles 4) ∨
        (s.halt = false ∧ exec s.fetched.1 (s.advance s.fetched.2) = .next t)) := by
  cases hf : s.fault with
  | some reason => rw [step_of_fault hf] at h; cases h
  | none =>
    refine ⟨rfl, ?_⟩
    cases hh : s.halt with
    | true => rw [step_of_halt hf hh] at h; cases h; exact .inl ⟨rfl, rfl⟩
    | false => rw [step_of_running hf hh] at h; exact .inr ⟨rfl, h⟩

/-- Every instruction's arm of `exec` is the meaning of its form. -/
theorem exec_eq_meaning (i : Instr) (s : State) : exec i s = (formOf i).meaning s := by
  cases i <;> rfl

/-- No meaning faults or refuses (`00_scope.md` R12). -/
theorem meaning_next (f : Form) (s : State) : ∃ t, f.meaning s = .next t := by
  cases f <;> exact ⟨_, rfl⟩

theorem exec_next (i : Instr) (s : State) : ∃ t, exec i s = .next t := by
  rw [exec_eq_meaning]
  exact meaning_next _ _

theorem Core.run_succ (M : Host.Core) (n : Nat) {s t : M.State} (h : M.step s = .next t) :
    M.run (n + 1) s = M.run n t := by
  rw [Host.Core.run, h]

/-- A run of the core is a step followed by a run. -/
theorem run_succ {n : Nat} {s t : State} (h : step s = .next t) : core.run (n + 1) s = core.run n t :=
  Core.run_succ core n h

end Sys2Proof.Machine
end

