-- ==== Sys2Proof/Laws/HostInterface.lean ====
section
/-! SUPPORT. What the host's frame loop can do: the three ends of a batch, what each turn of the outer loop does, and that the
frame it hands over is what `getPixel` answers for every pixel. -/

namespace Sys2Proof.Machine

theorem batchOr_of_fault {s : State} (h : s.fault.isSome = true) (target : Nat) (goOn : BatchEnd) :
    batchOr target s goOn = .ended s := by
  simp [batchOr, h]

theorem batchOr_of_reached {target : Nat} {s : State} (hf : s.fault = none) (hc : target ≤ s.cycles) (goOn : BatchEnd) :
    batchOr target s goOn = .complete s := by
  simp [batchOr, hf, hc]

theorem batchOr_of_below {target : Nat} {s : State} (hf : s.fault = none) (hc : s.cycles < target) (goOn : BatchEnd) :
    batchOr target s goOn = goOn := by
  simp [batchOr, hf, Nat.not_le.2 hc]

/-- What each end of a batch says of the state it answers. -/
def BatchEnd.Means (target fuel : Nat) (s : State) : BatchEnd → Prop
  | .complete t => t.fault = none ∧ target ≤ t.cycles ∧ ∃ n ≤ fuel, core.run n s = .next t
  | .ended t => t.fault.isSome = true ∧ ∃ n ≤ fuel, core.run n s = .next t
  | .unfinished t => t.fault = none ∧ t.cycles < target ∧ core.run fuel s = .next t

/-- Everything a batch can do: it completes at a state with no fault whose counter has reached the target, or ends at a state
whose fault mark is set, or has taken `fuel` steps and is still below the target (`60_exceptions.md` R189, R190). -/
theorem pump_means (target fuel : Nat) (s : State) : (pump target fuel s).Means target fuel s := by
  induction fuel generalizing s with
  | zero =>
    cases hf : s.fault with
    | some reason =>
      rw [pump, batchOr_of_fault (by simp [hf])]
      exact ⟨by simp [hf], 0, Nat.le_refl _, rfl⟩
    | none =>
      rcases Nat.lt_or_ge s.cycles target with hc | hc
      · rw [pump, batchOr_of_below hf hc]
        exact ⟨hf, hc, rfl⟩
      · rw [pump, batchOr_of_reached hf hc]
        exact ⟨hf, hc, 0, Nat.le_refl _, rfl⟩
  | succ fuel ih =>
    cases hf : s.fault with
    | some reason =>
      rw [pump, batchOr_of_fault (by simp [hf])]
      exact ⟨by simp [hf], 0, Nat.zero_le _, rfl⟩
    | none =>
      rcases Nat.lt_or_ge s.cycles target with hc | hc
      · obtain ⟨t, ht⟩ : ∃ t, step s = .next t := by
          cases hh : s.halt with
          | true => exact ⟨_, step_of_halt hf hh⟩
          | false => rw [step_of_running hf hh]; exact exec_next _ _
        rw [pump, batchOr_of_below hf hc, ht]
        have h := ih t
        revert h
        show (pump target fuel t).Means target fuel t → (pump target fuel t).Means target (fuel + 1) s
        cases pump target fuel t with
        | complete u => exact fun ⟨h1, h2, n, hn, hr⟩ => ⟨h1, h2, n + 1, Nat.succ_le_succ hn, (run_succ ht).trans hr⟩
        | ended u => exact fun ⟨h1, n, hn, hr⟩ => ⟨h1, n + 1, Nat.succ_le_succ hn, (run_succ ht).trans hr⟩
        | unfinished u => exact fun ⟨h1, h2, hr⟩ => ⟨h1, h2, (run_succ ht).trans hr⟩
      · rw [pump, batchOr_of_reached hf hc]
        exact ⟨hf, hc, 0, Nat.zero_le _, rfl⟩

/-- A halted core completes its batch, and only the counter has changed (`60_exceptions.md` R190). -/
theorem pump_of_halt {target fuel : Nat} {s : State} (hf : s.fault = none) (hh : s.halt = true)
    (hc : target ≤ s.cycles + 4 * fuel) : ∃ n, pump target fuel s = .complete (s.addCycles n) := by
  induction fuel generalizing s with
  | zero => exact ⟨0, batchOr_of_reached hf (by simpa using hc) _⟩
  | succ fuel ih =>
    rcases Nat.lt_or_ge s.cycles target with hlt | hge
    · obtain ⟨n, hn⟩ := ih (s := s.addCycles 4) (by simpa using hf) (by simpa using hh) (by simp; omega)
      refine ⟨4 + n, ?_⟩
      rw [pump, batchOr_of_below hf hlt, step_of_halt hf hh]
      simpa [State.addCycles, Nat.add_assoc] using hn
    · exact ⟨0, batchOr_of_reached hf hge _⟩

/-- QUIT ends the outer loop: no step, no frame, whatever turns would have followed (`60_exceptions.md` R189). -/
@[simp] theorem hostLoop_quit (fuel : Nat) (turns : List HostTurn) (s : State) :
    hostLoop fuel (.quit :: turns) s = { core := s, frames := [], status := .quit } := rfl

/-- ESCAPE ends the outer loop as QUIT does (`60_exceptions.md` R189). -/
@[simp] theorem hostLoop_escape (fuel : Nat) (turns : List HostTurn) (s : State) :
    hostLoop fuel (.escape :: turns) s = { core := s, frames := [], status := .quit } := rfl

/-- A frame whose batch completes hands over the frame of the state after its last step, and the loop goes on from that state
(`60_exceptions.md` R188, R189). -/
theorem hostLoop_frame {fuel : Nat} {s t : State} (h : hostBatch fuel s = .complete t) (turns : List HostTurn) :
    hostLoop fuel (.frame :: turns) s =
      { hostLoop fuel turns t with frames := t.frame :: (hostLoop fuel turns t).frames } := by
  simp [hostLoop, hostFrame, h]

/-- A frame in whose batch the fault mark is set ends the run and hands over no frame (`60_exceptions.md` R173, R190). -/
theorem hostLoop_faulted {fuel : Nat} {s t : State} (h : hostBatch fuel s = .ended t) (turns : List HostTurn) :
    hostLoop fuel (.frame :: turns) s = { core := t, frames := [], status := .faulted } := by
  simp [hostLoop, hostFrame, h]

/-- A frame whose batch uses up its bound is not taken for a completed one: no frame, and the loop says so (log 22). -/
theorem hostLoop_unfinished {fuel : Nat} {s t : State} (h : hostBatch fuel s = .unfinished t) (turns : List HostTurn) :
    hostLoop fuel (.frame :: turns) s = { core := t, frames := [], status := .unfinished } := by
  simp [hostLoop, hostFrame, h]

/-- The frame holds what `getPixel` answers at every pixel (`60_exceptions.md` R181). -/
theorem getPixel_eq_frame (s : State) {x y : Nat} (hx : x < 160) (hy : y < 144) :
    getPixel s x y = .ok ((s.frame.getD y []).getD x 0#32) := by
  have h : (0 : Int) ≤ x ∧ (x : Int) < 160 ∧ (0 : Int) ≤ y ∧ (y : Int) < 144 := by omega
  simp [getPixel, State.frame, h, hx, hy]

end Sys2Proof.Machine
end

