-- ==== Sys2Proof/Laws/Results.lean ====
section
/-! SUPPORT. The result computations in exact arithmetic, and what the ALU, INC, DEC and rotate meanings leave in every view of
the state. An equation between two states is proved by `simp`, field by field; `rfl` on one can take very long. -/

namespace Sys2Proof.Machine

theorem beq_zero (v : Byte) : (v == 0#8) = decide (v.toNat = 0) := by revert v; decide

theorem addCarry_value (a v : Byte) (c : Bool) : (addCarry a v c).value.toNat = (a.toNat + v.toNat + c.toNat) % 256 := by
  simp [addCarry]

theorem subBorrow_value (a v : Byte) (c : Bool) :
    ((subBorrow a v c).value.toNat : Int) = ((a.toNat : Int) - v.toNat - c.toNat) % 256 := by
  have := a.isLt
  have := v.isLt
  cases c <;> simp [subBorrow, BitVec.toNat_sub] <;> omega

theorem word_inc (w : Word) : w + 1#16 = BitVec.ofNat 16 (w.toNat + 1) := by
  apply BitVec.eq_of_toNat_eq
  simp

theorem word_dec (w : Word) : w - 1#16 = BitVec.ofNat 16 (w.toNat + 65535) := by
  apply BitVec.eq_of_toNat_eq
  simp [BitVec.toNat_sub]
  omega

/-- `sext_16(e)` added modulo 65 536 is the signed sum (`00_scope.md` R8). -/
theorem add_signExtend (w : Word) (e : Byte) : w + signExtend e = BitVec.ofInt 16 ((w.toNat : Int) + e.toInt) := by
  rw [BitVec.ofInt_add]
  congr 1
  simp

theorem highPage_eq (v : Byte) : highPage v = BitVec.ofNat 16 (0xFF00 + v.toNat) := by
  apply BitVec.eq_of_toNat_eq
  rw [highPage, pairWord_toNat]
  have := v.isLt
  simp
  omega

/-- A condition reads F only. -/
theorem State.cond_congr {s t : State} (h : t.f = s.f) (cc : Cond) : t.cond cc = s.cond cc := by
  cases cc <;> simp [State.cond, State.flag, h]

/-- An operand `r8` reads the general registers and memory only. -/
theorem State.read8_congr {s t : State} (hr : ∀ r, t.reg8 r = s.reg8 r) (hm : ∀ a, t.readByte a = s.readByte a)
    (x : Operand8) : t.read8 x = s.read8 x := by
  rcases x with r | _
  · exact hr r
  · have hh : t.h = s.h := hr .h
    have hl : t.l = s.l := hr .l
    simp [State.read8, State.hl, hm, hh, hl]

/-- An A-ALU operation's next state: the four flags, A, and nothing else but the cycles (`41_alu.md` R105). -/
theorem alu_spec (op : AluOp) (src : AluSource) (s : State) :
    ∃ t, alu op src s = .next t ∧
      (∀ x, t.flag x = match x with
        | .z => (op.result s.a (s.source src) (s.flag .c)).z
        | .n => (op.result s.a (s.source src) (s.flag .c)).n
        | .h => (op.result s.a (s.source src) (s.flag .c)).h
        | .c => (op.result s.a (s.source src) (s.flag .c)).c) ∧
      t.a = (if op.writesA then (op.result s.a (s.source src) (s.flag .c)).value else s.a) ∧
      { t with a := s.a, f := s.f } = { s with cycles := s.cycles + src.cost } := by
  refine ⟨_, rfl, fun x => ?_, ?_, ?_⟩
  · cases x <;> simp
  · cases op <;> rfl
  · cases op.writesA <;> simp [State.setReg8]

/-- A CB rotate or shift: the operand written with the result, the four flags, and nothing else but the cycles
(`44_cb_prefix.md` R153). -/
theorem rotate_spec (op : RotateOp) (x : Operand8) (s : State) :
    ∃ t, rotate op x s = .next t ∧
      (∀ y, t.flag y = match y with
        | .z => (op.result (s.read8 x) (s.flag .c)).value == 0#8
        | .n => false
        | .h => false
        | .c => (op.result (s.read8 x) (s.flag .c)).carry) ∧
      { t with f := s.f } =
        { s.write8 x (op.result (s.read8 x) (s.flag .c)).value with cycles := s.cycles + x.cost 8 16 } := by
  refine ⟨_, rfl, fun y => ?_, ?_⟩
  · cases y <;> simp
  · simp

/-- INC on an operand: Z, N and H written, C as it was (`41_alu.md` R114). -/
theorem incByte_spec (x : Operand8) (s : State) :
    ∃ t, incByte x s = .next t ∧
      (∀ y, t.flag y = match y with
        | .z => s.read8 x + 1#8 == 0#8
        | .n => false
        | .h => incHalf (s.read8 x)
        | .c => s.flag .c) ∧
      { t with f := s.f } = { s.write8 x (s.read8 x + 1#8) with cycles := s.cycles + x.cost 4 12 } := by
  refine ⟨_, rfl, fun y => ?_, ?_⟩
  · cases y <;> simp
  · simp

/-- DEC on an operand: Z, N and H written, C as it was (`41_alu.md` R115). -/
theorem decByte_spec (x : Operand8) (s : State) :
    ∃ t, decByte x s = .next t ∧
      (∀ y, t.flag y = match y with
        | .z => s.read8 x - 1#8 == 0#8
        | .n => true
        | .h => decHalf (s.read8 x)
        | .c => s.flag .c) ∧
      { t with f := s.f } = { s.write8 x (s.read8 x - 1#8) with cycles := s.cycles + x.cost 4 12 } := by
  refine ⟨_, rfl, fun y => ?_, ?_⟩
  · cases y <;> simp
  · simp

end Sys2Proof.Machine
end

