-- ==== Sys2Proof/Tests/Slice0.lean ====
section
/-! SUPPORT. The model's own tests. Expected results come from the spec: the words of `opcode_table.json`, and the worked
examples and vectors of `95_test_vectors.md`, whose id stands in a test's name. At the end, for every statement with hypotheses, a
state and operands that meet them. -/

namespace Sys2Proof.Tests

open Sys2Proof Sys2Proof.Machine

/-! ## Helpers -/

/-- `s` with bytes stored at given addresses. -/
def place (cells : List (Word × Byte)) (s : State) : State :=
  cells.foldl (fun t cell => t.writeByte cell.1 cell.2) s

/-- One step from `start`, with `cells` and the instruction's bytes in memory, costs `cost` and ends in the start state changed by
`finish` and with `stored` stored, and in nothing else. -/
def takes (start : State) (cells : List (Word × Byte)) (code : List Byte) (cost : Nat) (finish : State → State)
    (stored : List (Word × Byte)) : Bool :=
  let s := place cells (start.writeBytes start.pc code)
  match step s with
  | .next t => decide (t = place stored { finish s with cycles := s.cycles + cost })
  | .fault _ => false
  | .refused _ => false

/-- Each encoding decodes to the instruction at its place, with the byte after it left over. -/
def decodesTo (words : List (List Byte)) (instrs : List Instr) : Bool :=
  decide (words.length = instrs.length) &&
    (words.zip instrs).all fun p =>
      match decode (p.1 ++ [0x5A#8]) with
      | .ok (i, rest) => decide (i = p.2) && decide (rest = [0x5A#8])
      | .error _ => false

/-! ## Well-formedness -/

/-- The one check: an UNIMPLEMENTED instruction carries one of the eleven bytes (`30_encoding.md` R66). -/
theorem test_ill_formed_unimplemented : ¬ (Instr.unimplemented 0x00#8).WellFormed := by decide

theorem test_ill_formed_prefix_byte : ¬ (Instr.unimplemented 0xCB#8).WellFormed := by decide

theorem test_well_formed_unimplemented : (Instr.unimplemented 0xFD#8).WellFormed := by decide


/-! ## Decoding -/

theorem test_decode_row0 :
    decodesTo
      [[0x00#8], [0x01#8, 0x45#8, 0xC3#8], [0x02#8], [0x03#8], [0x04#8], [0x05#8], [0x06#8, 0x9C#8], [0x07#8], [0x08#8, 0x45#8,
       0xC3#8], [0x09#8], [0x0A#8], [0x0B#8], [0x0C#8], [0x0D#8], [0x0E#8, 0x9C#8], [0x0F#8]]
      [.nop, .ld_bc_n16 0xC345#16, .ld_bcInd_a, .inc_bc, .inc_b, .dec_b, .ld_b_n8 0x9C#8, .rlca, .ld_nnInd_sp 0xC345#16,
       .add_hl_bc, .ld_a_bcInd, .dec_bc, .inc_c, .dec_c, .ld_c_n8 0x9C#8, .rrca] = true := by decide

theorem test_decode_row1 :
    decodesTo
      [[0x10#8], [0x11#8, 0x45#8, 0xC3#8], [0x12#8], [0x13#8], [0x14#8], [0x15#8], [0x16#8, 0x9C#8], [0x17#8], [0x18#8,
       0xFE#8], [0x19#8], [0x1A#8], [0x1B#8], [0x1C#8], [0x1D#8], [0x1E#8, 0x9C#8], [0x1F#8]]
      [.stop, .ld_de_n16 0xC345#16, .ld_deInd_a, .inc_de, .inc_d, .dec_d, .ld_d_n8 0x9C#8, .rla, .jr_e 0xFE#8, .add_hl_de,
       .ld_a_deInd, .dec_de, .inc_e, .dec_e, .ld_e_n8 0x9C#8, .rra] = true := by decide

theorem test_decode_row2 :
    decodesTo
      [[0x20#8, 0xFE#8], [0x21#8, 0x45#8, 0xC3#8], [0x22#8], [0x23#8], [0x24#8], [0x25#8], [0x26#8, 0x9C#8], [0x27#8], [0x28#8,
       0xFE#8], [0x29#8], [0x2A#8], [0x2B#8], [0x2C#8], [0x2D#8], [0x2E#8, 0x9C#8], [0x2F#8]]
      [.jr_nz_e 0xFE#8, .ld_hl_n16 0xC345#16, .ld_hlInc_a, .inc_hl, .inc_h, .dec_h, .ld_h_n8 0x9C#8, .daa, .jr_z_e 0xFE#8,
       .add_hl_hl, .ld_a_hlInc, .dec_hl, .inc_l, .dec_l, .ld_l_n8 0x9C#8, .cpl] = true := by decide

theorem test_decode_row3 :
    decodesTo
      [[0x30#8, 0xFE#8], [0x31#8, 0x45#8, 0xC3#8], [0x32#8], [0x33#8], [0x34#8], [0x35#8], [0x36#8, 0x9C#8], [0x37#8], [0x38#8,
       0xFE#8], [0x39#8], [0x3A#8], [0x3B#8], [0x3C#8], [0x3D#8], [0x3E#8, 0x9C#8], [0x3F#8]]
      [.jr_nc_e 0xFE#8, .ld_sp_n16 0xC345#16, .ld_hlDec_a, .inc_sp, .inc_hlInd, .dec_hlInd, .ld_hlInd_n8 0x9C#8, .scf,
       .jr_c_e 0xFE#8, .add_hl_sp, .ld_a_hlDec, .dec_sp, .inc_a, .dec_a, .ld_a_n8 0x9C#8, .ccf] = true := by decide

theorem test_decode_row4 :
    decodesTo
      [[0x40#8], [0x41#8], [0x42#8], [0x43#8], [0x44#8], [0x45#8], [0x46#8], [0x47#8], [0x48#8], [0x49#8], [0x4A#8], [0x4B#8],
       [0x4C#8], [0x4D#8], [0x4E#8], [0x4F#8]]
      [.ld_b_b, .ld_b_c, .ld_b_d, .ld_b_e, .ld_b_h, .ld_b_l, .ld_b_hlInd, .ld_b_a, .ld_c_b, .ld_c_c, .ld_c_d, .ld_c_e, .ld_c_h,
       .ld_c_l, .ld_c_hlInd, .ld_c_a] = true := by decide

theorem test_decode_row5 :
    decodesTo
      [[0x50#8], [0x51#8], [0x52#8], [0x53#8], [0x54#8], [0x55#8], [0x56#8], [0x57#8], [0x58#8], [0x59#8], [0x5A#8], [0x5B#8],
       [0x5C#8], [0x5D#8], [0x5E#8], [0x5F#8]]
      [.ld_d_b, .ld_d_c, .ld_d_d, .ld_d_e, .ld_d_h, .ld_d_l, .ld_d_hlInd, .ld_d_a, .ld_e_b, .ld_e_c, .ld_e_d, .ld_e_e, .ld_e_h,
       .ld_e_l, .ld_e_hlInd, .ld_e_a] = true := by decide

theorem test_decode_row6 :
    decodesTo
      [[0x60#8], [0x61#8], [0x62#8], [0x63#8], [0x64#8], [0x65#8], [0x66#8], [0x67#8], [0x68#8], [0x69#8], [0x6A#8], [0x6B#8],
       [0x6C#8], [0x6D#8], [0x6E#8], [0x6F#8]]
      [.ld_h_b, .ld_h_c, .ld_h_d, .ld_h_e, .ld_h_h, .ld_h_l, .ld_h_hlInd, .ld_h_a, .ld_l_b, .ld_l_c, .ld_l_d, .ld_l_e, .ld_l_h,
       .ld_l_l, .ld_l_hlInd, .ld_l_a] = true := by decide

theorem test_decode_row7 :
    decodesTo
      [[0x70#8], [0x71#8], [0x72#8], [0x73#8], [0x74#8], [0x75#8], [0x76#8], [0x77#8], [0x78#8], [0x79#8], [0x7A#8], [0x7B#8],
       [0x7C#8], [0x7D#8], [0x7E#8], [0x7F#8]]
      [.ld_hlInd_b, .ld_hlInd_c, .ld_hlInd_d, .ld_hlInd_e, .ld_hlInd_h, .ld_hlInd_l, .halt, .ld_hlInd_a, .ld_a_b, .ld_a_c,
       .ld_a_d, .ld_a_e, .ld_a_h, .ld_a_l, .ld_a_hlInd, .ld_a_a] = true := by decide

theorem test_decode_row8 :
    decodesTo
      [[0x80#8], [0x81#8], [0x82#8], [0x83#8], [0x84#8], [0x85#8], [0x86#8], [0x87#8], [0x88#8], [0x89#8], [0x8A#8], [0x8B#8],
       [0x8C#8], [0x8D#8], [0x8E#8], [0x8F#8]]
      [.add_a_b, .add_a_c, .add_a_d, .add_a_e, .add_a_h, .add_a_l, .add_a_hlInd, .add_a_a, .adc_a_b, .adc_a_c, .adc_a_d,
       .adc_a_e, .adc_a_h, .adc_a_l, .adc_a_hlInd, .adc_a_a] = true := by decide

theorem test_decode_row9 :
    decodesTo
      [[0x90#8], [0x91#8], [0x92#8], [0x93#8], [0x94#8], [0x95#8], [0x96#8], [0x97#8], [0x98#8], [0x99#8], [0x9A#8], [0x9B#8],
       [0x9C#8], [0x9D#8], [0x9E#8], [0x9F#8]]
      [.sub_b, .sub_c, .sub_d, .sub_e, .sub_h, .sub_l, .sub_hlInd, .sub_a, .sbc_a_b, .sbc_a_c, .sbc_a_d, .sbc_a_e, .sbc_a_h,
       .sbc_a_l, .sbc_a_hlInd, .sbc_a_a] = true := by decide

theorem test_decode_rowA :
    decodesTo
      [[0xA0#8], [0xA1#8], [0xA2#8], [0xA3#8], [0xA4#8], [0xA5#8], [0xA6#8], [0xA7#8], [0xA8#8], [0xA9#8], [0xAA#8], [0xAB#8],
       [0xAC#8], [0xAD#8], [0xAE#8], [0xAF#8]]
      [.and_b, .and_c, .and_d, .and_e, .and_h, .and_l, .and_hlInd, .and_a, .xor_b, .xor_c, .xor_d, .xor_e, .xor_h, .xor_l,
       .xor_hlInd, .xor_a] = true := by decide

theorem test_decode_rowB :
    decodesTo
      [[0xB0#8], [0xB1#8], [0xB2#8], [0xB3#8], [0xB4#8], [0xB5#8], [0xB6#8], [0xB7#8], [0xB8#8], [0xB9#8], [0xBA#8], [0xBB#8],
       [0xBC#8], [0xBD#8], [0xBE#8], [0xBF#8]]
      [.or_b, .or_c, .or_d, .or_e, .or_h, .or_l, .or_hlInd, .or_a, .cp_b, .cp_c, .cp_d, .cp_e, .cp_h, .cp_l, .cp_hlInd,
       .cp_a] = true := by decide

theorem test_decode_rowC :
    decodesTo
      [[0xC0#8], [0xC1#8], [0xC2#8, 0x45#8, 0xC3#8], [0xC3#8, 0x45#8, 0xC3#8], [0xC4#8, 0x45#8, 0xC3#8], [0xC5#8], [0xC6#8,
       0x9C#8], [0xC7#8], [0xC8#8], [0xC9#8], [0xCA#8, 0x45#8, 0xC3#8], [0xCC#8, 0x45#8, 0xC3#8], [0xCD#8, 0x45#8, 0xC3#8],
        [0xCE#8, 0x9C#8], [0xCF#8]]
      [.ret_nz, .pop_bc, .jp_nz_nn 0xC345#16, .jp_nn 0xC345#16, .call_nz_nn 0xC345#16, .push_bc, .add_a_n8 0x9C#8, .rst_00h,
       .ret_z, .ret, .jp_z_nn 0xC345#16, .call_z_nn 0xC345#16, .call_nn 0xC345#16, .adc_a_n8 0x9C#8,
        .rst_08h] = true := by decide

theorem test_decode_rowD :
    decodesTo
      [[0xD0#8], [0xD1#8], [0xD2#8, 0x45#8, 0xC3#8], [0xD4#8, 0x45#8, 0xC3#8], [0xD5#8], [0xD6#8, 0x9C#8], [0xD7#8], [0xD8#8],
       [0xD9#8], [0xDA#8, 0x45#8, 0xC3#8], [0xDC#8, 0x45#8, 0xC3#8], [0xDE#8, 0x9C#8], [0xDF#8]]
      [.ret_nc, .pop_de, .jp_nc_nn 0xC345#16, .call_nc_nn 0xC345#16, .push_de, .sub_n8 0x9C#8, .rst_10h, .ret_c, .reti,
       .jp_c_nn 0xC345#16, .call_c_nn 0xC345#16, .sbc_a_n8 0x9C#8, .rst_18h] = true := by decide

theorem test_decode_rowE :
    decodesTo
      [[0xE0#8, 0x9C#8], [0xE1#8], [0xE2#8], [0xE5#8], [0xE6#8, 0x9C#8], [0xE7#8], [0xE8#8, 0xFE#8], [0xE9#8], [0xEA#8, 0x45#8,
       0xC3#8], [0xEE#8, 0x9C#8], [0xEF#8]]
      [.ld_ff00n_a 0x9C#8, .pop_hl, .ld_ff00c_a, .push_hl, .and_n8 0x9C#8, .rst_20h, .add_sp_e 0xFE#8, .jp_hl,
       .ld_nnInd_a 0xC345#16, .xor_n8 0x9C#8, .rst_28h] = true := by decide

theorem test_decode_rowF :
    decodesTo
      [[0xF0#8, 0x9C#8], [0xF1#8], [0xF2#8], [0xF3#8], [0xF5#8], [0xF6#8, 0x9C#8], [0xF7#8], [0xF8#8, 0xFE#8], [0xF9#8],
       [0xFA#8, 0x45#8, 0xC3#8], [0xFB#8], [0xFE#8, 0x9C#8], [0xFF#8]]
      [.ld_a_ff00n 0x9C#8, .pop_af, .ld_a_ff00c, .di, .push_af, .or_n8 0x9C#8, .rst_30h, .ld_hl_spe 0xFE#8, .ld_sp_hl,
       .ld_a_nnInd 0xC345#16, .ei, .cp_n8 0x9C#8, .rst_38h] = true := by decide

theorem test_decode_cb0 :
    decodesTo
      [[0xCB#8, 0x00#8], [0xCB#8, 0x01#8], [0xCB#8, 0x02#8], [0xCB#8, 0x03#8], [0xCB#8, 0x04#8], [0xCB#8, 0x05#8], [0xCB#8,
       0x06#8], [0xCB#8, 0x07#8], [0xCB#8, 0x08#8], [0xCB#8, 0x09#8], [0xCB#8, 0x0A#8], [0xCB#8, 0x0B#8], [0xCB#8, 0x0C#8],
        [0xCB#8, 0x0D#8], [0xCB#8, 0x0E#8], [0xCB#8, 0x0F#8]]
      [.rlc_b, .rlc_c, .rlc_d, .rlc_e, .rlc_h, .rlc_l, .rlc_hlInd, .rlc_a, .rrc_b, .rrc_c, .rrc_d, .rrc_e, .rrc_h, .rrc_l,
       .rrc_hlInd, .rrc_a] = true := by decide

theorem test_decode_cb1 :
    decodesTo
      [[0xCB#8, 0x10#8], [0xCB#8, 0x11#8], [0xCB#8, 0x12#8], [0xCB#8, 0x13#8], [0xCB#8, 0x14#8], [0xCB#8, 0x15#8], [0xCB#8,
       0x16#8], [0xCB#8, 0x17#8], [0xCB#8, 0x18#8], [0xCB#8, 0x19#8], [0xCB#8, 0x1A#8], [0xCB#8, 0x1B#8], [0xCB#8, 0x1C#8],
        [0xCB#8, 0x1D#8], [0xCB#8, 0x1E#8], [0xCB#8, 0x1F#8]]
      [.rl_b, .rl_c, .rl_d, .rl_e, .rl_h, .rl_l, .rl_hlInd, .rl_a, .rr_b, .rr_c, .rr_d, .rr_e, .rr_h, .rr_l, .rr_hlInd,
       .rr_a] = true := by decide

theorem test_decode_cb2 :
    decodesTo
      [[0xCB#8, 0x20#8], [0xCB#8, 0x21#8], [0xCB#8, 0x22#8], [0xCB#8, 0x23#8], [0xCB#8, 0x24#8], [0xCB#8, 0x25#8], [0xCB#8,
       0x26#8], [0xCB#8, 0x27#8], [0xCB#8, 0x28#8], [0xCB#8, 0x29#8], [0xCB#8, 0x2A#8], [0xCB#8, 0x2B#8], [0xCB#8, 0x2C#8],
        [0xCB#8, 0x2D#8], [0xCB#8, 0x2E#8], [0xCB#8, 0x2F#8]]
      [.sla_b, .sla_c, .sla_d, .sla_e, .sla_h, .sla_l, .sla_hlInd, .sla_a, .sra_b, .sra_c, .sra_d, .sra_e, .sra_h, .sra_l,
       .sra_hlInd, .sra_a] = true := by decide

theorem test_decode_cb3 :
    decodesTo
      [[0xCB#8, 0x30#8], [0xCB#8, 0x31#8], [0xCB#8, 0x32#8], [0xCB#8, 0x33#8], [0xCB#8, 0x34#8], [0xCB#8, 0x35#8], [0xCB#8,
       0x36#8], [0xCB#8, 0x37#8], [0xCB#8, 0x38#8], [0xCB#8, 0x39#8], [0xCB#8, 0x3A#8], [0xCB#8, 0x3B#8], [0xCB#8, 0x3C#8],
        [0xCB#8, 0x3D#8], [0xCB#8, 0x3E#8], [0xCB#8, 0x3F#8]]
      [.swap_b, .swap_c, .swap_d, .swap_e, .swap_h, .swap_l, .swap_hlInd, .swap_a, .srl_b, .srl_c, .srl_d, .srl_e, .srl_h,
       .srl_l, .srl_hlInd, .srl_a] = true := by decide

theorem test_decode_cb4 :
    decodesTo
      [[0xCB#8, 0x40#8], [0xCB#8, 0x41#8], [0xCB#8, 0x42#8], [0xCB#8, 0x43#8], [0xCB#8, 0x44#8], [0xCB#8, 0x45#8], [0xCB#8,
       0x46#8], [0xCB#8, 0x47#8], [0xCB#8, 0x48#8], [0xCB#8, 0x49#8], [0xCB#8, 0x4A#8], [0xCB#8, 0x4B#8], [0xCB#8, 0x4C#8],
        [0xCB#8, 0x4D#8], [0xCB#8, 0x4E#8], [0xCB#8, 0x4F#8]]
      [.bit_0_b, .bit_0_c, .bit_0_d, .bit_0_e, .bit_0_h, .bit_0_l, .bit_0_hlInd, .bit_0_a, .bit_1_b, .bit_1_c, .bit_1_d,
       .bit_1_e, .bit_1_h, .bit_1_l, .bit_1_hlInd, .bit_1_a] = true := by decide

theorem test_decode_cb5 :
    decodesTo
      [[0xCB#8, 0x50#8], [0xCB#8, 0x51#8], [0xCB#8, 0x52#8], [0xCB#8, 0x53#8], [0xCB#8, 0x54#8], [0xCB#8, 0x55#8], [0xCB#8,
       0x56#8], [0xCB#8, 0x57#8], [0xCB#8, 0x58#8], [0xCB#8, 0x59#8], [0xCB#8, 0x5A#8], [0xCB#8, 0x5B#8], [0xCB#8, 0x5C#8],
        [0xCB#8, 0x5D#8], [0xCB#8, 0x5E#8], [0xCB#8, 0x5F#8]]
      [.bit_2_b, .bit_2_c, .bit_2_d, .bit_2_e, .bit_2_h, .bit_2_l, .bit_2_hlInd, .bit_2_a, .bit_3_b, .bit_3_c, .bit_3_d,
       .bit_3_e, .bit_3_h, .bit_3_l, .bit_3_hlInd, .bit_3_a] = true := by decide

theorem test_decode_cb6 :
    decodesTo
      [[0xCB#8, 0x60#8], [0xCB#8, 0x61#8], [0xCB#8, 0x62#8], [0xCB#8, 0x63#8], [0xCB#8, 0x64#8], [0xCB#8, 0x65#8], [0xCB#8,
       0x66#8], [0xCB#8, 0x67#8], [0xCB#8, 0x68#8], [0xCB#8, 0x69#8], [0xCB#8, 0x6A#8], [0xCB#8, 0x6B#8], [0xCB#8, 0x6C#8],
        [0xCB#8, 0x6D#8], [0xCB#8, 0x6E#8], [0xCB#8, 0x6F#8]]
      [.bit_4_b, .bit_4_c, .bit_4_d, .bit_4_e, .bit_4_h, .bit_4_l, .bit_4_hlInd, .bit_4_a, .bit_5_b, .bit_5_c, .bit_5_d,
       .bit_5_e, .bit_5_h, .bit_5_l, .bit_5_hlInd, .bit_5_a] = true := by decide

theorem test_decode_cb7 :
    decodesTo
      [[0xCB#8, 0x70#8], [0xCB#8, 0x71#8], [0xCB#8, 0x72#8], [0xCB#8, 0x73#8], [0xCB#8, 0x74#8], [0xCB#8, 0x75#8], [0xCB#8,
       0x76#8], [0xCB#8, 0x77#8], [0xCB#8, 0x78#8], [0xCB#8, 0x79#8], [0xCB#8, 0x7A#8], [0xCB#8, 0x7B#8], [0xCB#8, 0x7C#8],
        [0xCB#8, 0x7D#8], [0xCB#8, 0x7E#8], [0xCB#8, 0x7F#8]]
      [.bit_6_b, .bit_6_c, .bit_6_d, .bit_6_e, .bit_6_h, .bit_6_l, .bit_6_hlInd, .bit_6_a, .bit_7_b, .bit_7_c, .bit_7_d,
       .bit_7_e, .bit_7_h, .bit_7_l, .bit_7_hlInd, .bit_7_a] = true := by decide

theorem test_decode_cb8 :
    decodesTo
      [[0xCB#8, 0x80#8], [0xCB#8, 0x81#8], [0xCB#8, 0x82#8], [0xCB#8, 0x83#8], [0xCB#8, 0x84#8], [0xCB#8, 0x85#8], [0xCB#8,
       0x86#8], [0xCB#8, 0x87#8], [0xCB#8, 0x88#8], [0xCB#8, 0x89#8], [0xCB#8, 0x8A#8], [0xCB#8, 0x8B#8], [0xCB#8, 0x8C#8],
        [0xCB#8, 0x8D#8], [0xCB#8, 0x8E#8], [0xCB#8, 0x8F#8]]
      [.res_0_b, .res_0_c, .res_0_d, .res_0_e, .res_0_h, .res_0_l, .res_0_hlInd, .res_0_a, .res_1_b, .res_1_c, .res_1_d,
       .res_1_e, .res_1_h, .res_1_l, .res_1_hlInd, .res_1_a] = true := by decide

theorem test_decode_cb9 :
    decodesTo
      [[0xCB#8, 0x90#8], [0xCB#8, 0x91#8], [0xCB#8, 0x92#8], [0xCB#8, 0x93#8], [0xCB#8, 0x94#8], [0xCB#8, 0x95#8], [0xCB#8,
       0x96#8], [0xCB#8, 0x97#8], [0xCB#8, 0x98#8], [0xCB#8, 0x99#8], [0xCB#8, 0x9A#8], [0xCB#8, 0x9B#8], [0xCB#8, 0x9C#8],
        [0xCB#8, 0x9D#8], [0xCB#8, 0x9E#8], [0xCB#8, 0x9F#8]]
      [.res_2_b, .res_2_c, .res_2_d, .res_2_e, .res_2_h, .res_2_l, .res_2_hlInd, .res_2_a, .res_3_b, .res_3_c, .res_3_d,
       .res_3_e, .res_3_h, .res_3_l, .res_3_hlInd, .res_3_a] = true := by decide

theorem test_decode_cbA :
    decodesTo
      [[0xCB#8, 0xA0#8], [0xCB#8, 0xA1#8], [0xCB#8, 0xA2#8], [0xCB#8, 0xA3#8], [0xCB#8, 0xA4#8], [0xCB#8, 0xA5#8], [0xCB#8,
       0xA6#8], [0xCB#8, 0xA7#8], [0xCB#8, 0xA8#8], [0xCB#8, 0xA9#8], [0xCB#8, 0xAA#8], [0xCB#8, 0xAB#8], [0xCB#8, 0xAC#8],
        [0xCB#8, 0xAD#8], [0xCB#8, 0xAE#8], [0xCB#8, 0xAF#8]]
      [.res_4_b, .res_4_c, .res_4_d, .res_4_e, .res_4_h, .res_4_l, .res_4_hlInd, .res_4_a, .res_5_b, .res_5_c, .res_5_d,
       .res_5_e, .res_5_h, .res_5_l, .res_5_hlInd, .res_5_a] = true := by decide

theorem test_decode_cbB :
    decodesTo
      [[0xCB#8, 0xB0#8], [0xCB#8, 0xB1#8], [0xCB#8, 0xB2#8], [0xCB#8, 0xB3#8], [0xCB#8, 0xB4#8], [0xCB#8, 0xB5#8], [0xCB#8,
       0xB6#8], [0xCB#8, 0xB7#8], [0xCB#8, 0xB8#8], [0xCB#8, 0xB9#8], [0xCB#8, 0xBA#8], [0xCB#8, 0xBB#8], [0xCB#8, 0xBC#8],
        [0xCB#8, 0xBD#8], [0xCB#8, 0xBE#8], [0xCB#8, 0xBF#8]]
      [.res_6_b, .res_6_c, .res_6_d, .res_6_e, .res_6_h, .res_6_l, .res_6_hlInd, .res_6_a, .res_7_b, .res_7_c, .res_7_d,
       .res_7_e, .res_7_h, .res_7_l, .res_7_hlInd, .res_7_a] = true := by decide

theorem test_decode_cbC :
    decodesTo
      [[0xCB#8, 0xC0#8], [0xCB#8, 0xC1#8], [0xCB#8, 0xC2#8], [0xCB#8, 0xC3#8], [0xCB#8, 0xC4#8], [0xCB#8, 0xC5#8], [0xCB#8,
       0xC6#8], [0xCB#8, 0xC7#8], [0xCB#8, 0xC8#8], [0xCB#8, 0xC9#8], [0xCB#8, 0xCA#8], [0xCB#8, 0xCB#8], [0xCB#8, 0xCC#8],
        [0xCB#8, 0xCD#8], [0xCB#8, 0xCE#8], [0xCB#8, 0xCF#8]]
      [.set_0_b, .set_0_c, .set_0_d, .set_0_e, .set_0_h, .set_0_l, .set_0_hlInd, .set_0_a, .set_1_b, .set_1_c, .set_1_d,
       .set_1_e, .set_1_h, .set_1_l, .set_1_hlInd, .set_1_a] = true := by decide

theorem test_decode_cbD :
    decodesTo
      [[0xCB#8, 0xD0#8], [0xCB#8, 0xD1#8], [0xCB#8, 0xD2#8], [0xCB#8, 0xD3#8], [0xCB#8, 0xD4#8], [0xCB#8, 0xD5#8], [0xCB#8,
       0xD6#8], [0xCB#8, 0xD7#8], [0xCB#8, 0xD8#8], [0xCB#8, 0xD9#8], [0xCB#8, 0xDA#8], [0xCB#8, 0xDB#8], [0xCB#8, 0xDC#8],
        [0xCB#8, 0xDD#8], [0xCB#8, 0xDE#8], [0xCB#8, 0xDF#8]]
      [.set_2_b, .set_2_c, .set_2_d, .set_2_e, .set_2_h, .set_2_l, .set_2_hlInd, .set_2_a, .set_3_b, .set_3_c, .set_3_d,
       .set_3_e, .set_3_h, .set_3_l, .set_3_hlInd, .set_3_a] = true := by decide

theorem test_decode_cbE :
    decodesTo
      [[0xCB#8, 0xE0#8], [0xCB#8, 0xE1#8], [0xCB#8, 0xE2#8], [0xCB#8, 0xE3#8], [0xCB#8, 0xE4#8], [0xCB#8, 0xE5#8], [0xCB#8,
       0xE6#8], [0xCB#8, 0xE7#8], [0xCB#8, 0xE8#8], [0xCB#8, 0xE9#8], [0xCB#8, 0xEA#8], [0xCB#8, 0xEB#8], [0xCB#8, 0xEC#8],
        [0xCB#8, 0xED#8], [0xCB#8, 0xEE#8], [0xCB#8, 0xEF#8]]
      [.set_4_b, .set_4_c, .set_4_d, .set_4_e, .set_4_h, .set_4_l, .set_4_hlInd, .set_4_a, .set_5_b, .set_5_c, .set_5_d,
       .set_5_e, .set_5_h, .set_5_l, .set_5_hlInd, .set_5_a] = true := by decide

theorem test_decode_cbF :
    decodesTo
      [[0xCB#8, 0xF0#8], [0xCB#8, 0xF1#8], [0xCB#8, 0xF2#8], [0xCB#8, 0xF3#8], [0xCB#8, 0xF4#8], [0xCB#8, 0xF5#8], [0xCB#8,
       0xF6#8], [0xCB#8, 0xF7#8], [0xCB#8, 0xF8#8], [0xCB#8, 0xF9#8], [0xCB#8, 0xFA#8], [0xCB#8, 0xFB#8], [0xCB#8, 0xFC#8],
        [0xCB#8, 0xFD#8], [0xCB#8, 0xFE#8], [0xCB#8, 0xFF#8]]
      [.set_6_b, .set_6_c, .set_6_d, .set_6_e, .set_6_h, .set_6_l, .set_6_hlInd, .set_6_a, .set_7_b, .set_7_c, .set_7_d,
       .set_7_e, .set_7_h, .set_7_l, .set_7_hlInd, .set_7_a] = true := by decide

theorem test_decode_unimplemented :
    decodesTo [[0xD3#8], [0xDB#8], [0xDD#8], [0xE3#8], [0xE4#8], [0xEB#8], [0xEC#8], [0xED#8], [0xF4#8], [0xFC#8],
     [0xFD#8]] [.unimplemented 0xD3#8, .unimplemented 0xDB#8, .unimplemented 0xDD#8, .unimplemented 0xE3#8,
      .unimplemented 0xE4#8, .unimplemented 0xEB#8, .unimplemented 0xEC#8, .unimplemented 0xED#8, .unimplemented 0xF4#8,
       .unimplemented 0xFC#8, .unimplemented 0xFD#8] = true := by decide

/-! ## One step: the vectors of `95_test_vectors.md` section 2 -/

theorem test_L1_ld_b_a :
    takes { State.reset with a := 0x5A#8 }
      [] [0x47#8] 4
      (fun s => { s with b := 0x5A#8, pc := 0x0101#16 })
      [] = true := by decide

theorem test_L2_ld_a_a :
    takes State.reset
      [] [0x7F#8] 4
      (fun s => { s with pc := 0x0101#16 })
      [] = true := by decide

theorem test_L3_ld_c_n8 :
    takes State.reset
      [] [0x0E#8, 0x99#8] 8
      (fun s => { s with c := 0x99#8, pc := 0x0102#16 })
      [] = true := by decide

theorem test_L4_ld_b_hlInd :
    takes { State.reset with h := 0xC0#8, l := 0x00#8 }
      [(0xC000#16, 0x77#8)] [0x46#8] 8
      (fun s => { s with b := 0x77#8, pc := 0x0101#16 })
      [] = true := by decide

theorem test_L5_ld_h_hlInd :
    takes { State.reset with h := 0xC0#8, l := 0x00#8 }
      [(0xC000#16, 0x77#8)] [0x66#8] 8
      (fun s => { s with h := 0x77#8, pc := 0x0101#16 })
      [] = true := by decide

theorem test_L6_ld_hlInd_b :
    takes { State.reset with h := 0xC0#8, l := 0x00#8, b := 0x5A#8 }
      [] [0x70#8] 8
      (fun s => { s with pc := 0x0101#16 })
      [(0xC000#16, 0x5A#8)] = true := by decide

theorem test_L7_ld_hlInd_h :
    takes { State.reset with h := 0xC0#8, l := 0x12#8 }
      [] [0x74#8] 8
      (fun s => { s with pc := 0x0101#16 })
      [(0xC012#16, 0xC0#8)] = true := by decide

theorem test_L8_ld_hlInd_n8 :
    takes { State.reset with h := 0xC0#8, l := 0x00#8 }
      [] [0x36#8, 0xAB#8] 12
      (fun s => { s with pc := 0x0102#16 })
      [(0xC000#16, 0xAB#8)] = true := by decide

theorem test_L9_ld_a_bcInd :
    takes { State.reset with b := 0xC1#8, c := 0x00#8 }
      [(0xC100#16, 0x3C#8)] [0x0A#8] 8
      (fun s => { s with a := 0x3C#8, pc := 0x0101#16 })
      [] = true := by decide

theorem test_L10_ld_a_deInd :
    takes { State.reset with d := 0xC2#8, e := 0x00#8 }
      [(0xC200#16, 0x4D#8)] [0x1A#8] 8
      (fun s => { s with a := 0x4D#8, pc := 0x0101#16 })
      [] = true := by decide

theorem test_L11_ld_bcInd_a :
    takes { State.reset with b := 0xC1#8, c := 0x00#8, a := 0x12#8 }
      [] [0x02#8] 8
      (fun s => { s with pc := 0x0101#16 })
      [(0xC100#16, 0x12#8)] = true := by decide

theorem test_L12_ld_deInd_a :
    takes { State.reset with d := 0xC2#8, e := 0x00#8, a := 0x34#8 }
      [] [0x12#8] 8
      (fun s => { s with pc := 0x0101#16 })
      [(0xC200#16, 0x34#8)] = true := by decide

theorem test_L13_ld_a_nnInd :
    takes State.reset
      [(0xC345#16, 0x9E#8)] [0xFA#8, 0x45#8, 0xC3#8] 16
      (fun s => { s with a := 0x9E#8, pc := 0x0103#16 })
      [] = true := by decide

theorem test_L14_ld_hlInc_a :
    takes { State.reset with h := 0xFF#8, l := 0xFF#8, a := 0x66#8 }
      [] [0x22#8] 8
      (fun s => { s with h := 0x00#8, l := 0x00#8, pc := 0x0101#16 })
      [(0xFFFF#16, 0x66#8)] = true := by decide

theorem test_L15_ld_hlDec_a :
    takes { State.reset with h := 0x00#8, l := 0x00#8, a := 0x66#8 }
      [] [0x32#8] 8
      (fun s => { s with h := 0xFF#8, l := 0xFF#8, pc := 0x0101#16 })
      [(0x0000#16, 0x66#8)] = true := by decide

theorem test_L16_ld_a_hlInc :
    takes { State.reset with h := 0xC0#8, l := 0x00#8 }
      [(0xC000#16, 0x21#8)] [0x2A#8] 8
      (fun s => { s with a := 0x21#8, l := 0x01#8, pc := 0x0101#16 })
      [] = true := by decide

theorem test_L17_ld_a_hlDec :
    takes { State.reset with h := 0xC0#8, l := 0x00#8 }
      [(0xC000#16, 0x21#8)] [0x3A#8] 8
      (fun s => { s with a := 0x21#8, h := 0xBF#8, l := 0xFF#8, pc := 0x0101#16 })
      [] = true := by decide

theorem test_L18_ld_ff00n_a :
    takes { State.reset with a := 0x2B#8 }
      [] [0xE0#8, 0x80#8] 12
      (fun s => { s with pc := 0x0102#16 })
      [(0xFF80#16, 0x2B#8)] = true := by decide

theorem test_L19_ld_ff00n_a :
    takes { State.reset with a := 0x2B#8 }
      [] [0xE0#8, 0xFF#8] 12
      (fun s => { s with pc := 0x0102#16 })
      [(0xFFFF#16, 0x2B#8)] = true := by decide

theorem test_L20_ld_a_ff00n :
    takes State.reset
      [(0xFF85#16, 0x44#8)] [0xF0#8, 0x85#8] 12
      (fun s => { s with a := 0x44#8, pc := 0x0102#16 })
      [] = true := by decide

theorem test_L21_ld_ff00c_a :
    takes { State.reset with a := 0x2B#8, c := 0x81#8 }
      [] [0xE2#8] 8
      (fun s => { s with pc := 0x0101#16 })
      [(0xFF81#16, 0x2B#8)] = true := by decide

theorem test_L22_ld_a_ff00c :
    takes { State.reset with c := 0x47#8 }
      [] [0xF2#8] 8
      (fun s => { s with a := 0xE4#8, pc := 0x0101#16 })
      [] = true := by decide

theorem test_L23_ld_nnInd_a :
    takes { State.reset with a := 0x2B#8 }
      [] [0xEA#8, 0x00#8, 0xC0#8] 16
      (fun s => { s with pc := 0x0103#16 })
      [(0xC000#16, 0x2B#8)] = true := by decide

theorem test_L24_ld_bc_n16 :
    takes State.reset
      [] [0x01#8, 0x34#8, 0x12#8] 12
      (fun s => { s with b := 0x12#8, c := 0x34#8, pc := 0x0103#16 })
      [] = true := by decide

theorem test_L25_ld_sp_n16 :
    takes State.reset
      [] [0x31#8, 0xF0#8, 0xDF#8] 12
      (fun s => { s with sp := 0xDFF0#16, pc := 0x0103#16 })
      [] = true := by decide

theorem test_L26_ld_nnInd_sp :
    takes { State.reset with sp := 0xFFF8#16 }
      [] [0x08#8, 0x00#8, 0xC0#8] 20
      (fun s => { s with pc := 0x0103#16 })
      [(0xC000#16, 0xF8#8), (0xC001#16, 0xFF#8)] = true := by decide

theorem test_L27_ld_nnInd_sp :
    takes { State.reset with sp := 0xABCD#16 }
      [] [0x08#8, 0xFF#8, 0xFF#8] 20
      (fun s => { s with pc := 0x0103#16 })
      [(0x0000#16, 0xAB#8), (0xFFFF#16, 0xCD#8)] = true := by decide

theorem test_L28_ld_sp_hl :
    takes { State.reset with h := 0xC0#8, l := 0xDE#8 }
      [] [0xF9#8] 8
      (fun s => { s with sp := 0xC0DE#16, pc := 0x0101#16 })
      [] = true := by decide

theorem test_L29_ld_hl_spe :
    takes { State.reset with sp := 0xFFF8#16 }
      [] [0xF8#8, 0x08#8] 12
      (fun s => { s with f := 0x30#8, h := 0x00#8, l := 0x00#8, pc := 0x0102#16 })
      [] = true := by decide

theorem test_L30_ld_hl_spe :
    takes { State.reset with sp := 0x0000#16 }
      [] [0xF8#8, 0xFF#8] 12
      (fun s => { s with f := 0x00#8, h := 0xFF#8, l := 0xFF#8, pc := 0x0102#16 })
      [] = true := by decide

theorem test_L32_push_bc :
    takes { State.reset with sp := 0xFFFE#16, b := 0x12#8, c := 0x34#8 }
      [] [0xC5#8] 16
      (fun s => { s with sp := 0xFFFC#16, pc := 0x0101#16 })
      [(0xFFFC#16, 0x34#8), (0xFFFD#16, 0x12#8)] = true := by decide

theorem test_L33_push_de :
    takes { State.reset with sp := 0x0001#16, d := 0xBE#8, e := 0xEF#8 }
      [] [0xD5#8] 16
      (fun s => { s with sp := 0xFFFF#16, pc := 0x0101#16 })
      [(0x0000#16, 0xBE#8), (0xFFFF#16, 0xEF#8)] = true := by decide

theorem test_L34_pop_hl :
    takes { State.reset with sp := 0xC000#16 }
      [(0xC000#16, 0x01#8), (0xC001#16, 0x80#8)] [0xE1#8] 12
      (fun s => { s with h := 0x80#8, l := 0x01#8, sp := 0xC002#16, pc := 0x0101#16 })
      [] = true := by decide

theorem test_L35_pop_af :
    takes { State.reset with sp := 0xC000#16 }
      [(0xC000#16, 0xFF#8), (0xC001#16, 0xFF#8)] [0xF1#8] 12
      (fun s => { s with a := 0xFF#8, f := 0xF0#8, sp := 0xC002#16, pc := 0x0101#16 })
      [] = true := by decide

theorem test_L36_pop_bc :
    takes { State.reset with sp := 0xFFFF#16 }
      [(0x0000#16, 0x12#8), (0xFFFF#16, 0x34#8)] [0xC1#8] 12
      (fun s => { s with b := 0x12#8, c := 0x34#8, sp := 0x0001#16, pc := 0x0101#16 })
      [] = true := by decide

theorem test_A1_add_a_n8 :
    takes { State.reset with a := 0x3C#8, f := 0x00#8 }
      [] [0xC6#8, 0xFF#8] 8
      (fun s => { s with a := 0x3B#8, f := 0x30#8, pc := 0x0102#16 })
      [] = true := by decide

theorem test_A2_add_a_a :
    takes { State.reset with a := 0x80#8, f := 0x00#8 }
      [] [0x87#8] 4
      (fun s => { s with a := 0x00#8, f := 0x90#8, pc := 0x0101#16 })
      [] = true := by decide

theorem test_A3_add_a_b :
    takes { State.reset with a := 0x0F#8, b := 0x01#8, f := 0x00#8 }
      [] [0x80#8] 4
      (fun s => { s with a := 0x10#8, f := 0x20#8, pc := 0x0101#16 })
      [] = true := by decide

theorem test_A4_adc_a_n8 :
    takes { State.reset with a := 0xFF#8, f := 0x10#8 }
      [] [0xCE#8, 0xFF#8] 8
      (fun s => { s with f := 0x30#8, pc := 0x0102#16 })
      [] = true := by decide

theorem test_A5_adc_a_n8 :
    takes { State.reset with a := 0x0F#8, f := 0x10#8 }
      [] [0xCE#8, 0x00#8] 8
      (fun s => { s with a := 0x10#8, f := 0x20#8, pc := 0x0102#16 })
      [] = true := by decide

theorem test_A7_sub_n8 :
    takes { State.reset with a := 0x3E#8, f := 0x00#8 }
      [] [0xD6#8, 0x0F#8] 8
      (fun s => { s with a := 0x2F#8, f := 0x60#8, pc := 0x0102#16 })
      [] = true := by decide

theorem test_A8_sub_n8 :
    takes { State.reset with a := 0x00#8, f := 0x00#8 }
      [] [0xD6#8, 0x01#8] 8
      (fun s => { s with a := 0xFF#8, f := 0x70#8, pc := 0x0102#16 })
      [] = true := by decide

theorem test_A9_sub_a :
    takes { State.reset with a := 0x42#8 }
      [] [0x97#8] 4
      (fun s => { s with a := 0x00#8, f := 0xC0#8, pc := 0x0101#16 })
      [] = true := by decide

theorem test_A10_sbc_a_n8 :
    takes { State.reset with a := 0x3B#8, f := 0x10#8 }
      [] [0xDE#8, 0x2A#8] 8
      (fun s => { s with a := 0x10#8, f := 0x40#8, pc := 0x0102#16 })
      [] = true := by decide

theorem test_A11_sbc_a_n8 :
    takes { State.reset with a := 0x00#8, f := 0x10#8 }
      [] [0xDE#8, 0xFF#8] 8
      (fun s => { s with f := 0xF0#8, pc := 0x0102#16 })
      [] = true := by decide

theorem test_A12_sbc_a_a :
    takes { State.reset with a := 0x55#8, f := 0x10#8 }
      [] [0x9F#8] 4
      (fun s => { s with a := 0xFF#8, f := 0x70#8, pc := 0x0101#16 })
      [] = true := by decide

theorem test_A13_sbc_a_a :
    takes { State.reset with a := 0x55#8, f := 0x00#8 }
      [] [0x9F#8] 4
      (fun s => { s with a := 0x00#8, f := 0xC0#8, pc := 0x0101#16 })
      [] = true := by decide

theorem test_A15_and_n8 :
    takes { State.reset with a := 0x5A#8, f := 0x00#8 }
      [] [0xE6#8, 0x0F#8] 8
      (fun s => { s with a := 0x0A#8, f := 0x20#8, pc := 0x0102#16 })
      [] = true := by decide

theorem test_A16_and_n8 :
    takes { State.reset with a := 0x5A#8, f := 0x00#8 }
      [] [0xE6#8, 0xA5#8] 8
      (fun s => { s with a := 0x00#8, f := 0xA0#8, pc := 0x0102#16 })
      [] = true := by decide

theorem test_A17_xor_n8 :
    takes { State.reset with a := 0x5A#8, f := 0x70#8 }
      [] [0xEE#8, 0x5A#8] 8
      (fun s => { s with a := 0x00#8, f := 0x80#8, pc := 0x0102#16 })
      [] = true := by decide

theorem test_A18_xor_a :
    takes { State.reset with a := 0x12#8, f := 0xF0#8 }
      [] [0xAF#8] 4
      (fun s => { s with a := 0x00#8, f := 0x80#8, pc := 0x0101#16 })
      [] = true := by decide

theorem test_A19_or_b :
    takes { State.reset with a := 0x00#8, b := 0x00#8, f := 0x70#8 }
      [] [0xB0#8] 4
      (fun s => { s with f := 0x80#8, pc := 0x0101#16 })
      [] = true := by decide

theorem test_A20_or_n8 :
    takes { State.reset with a := 0x50#8, f := 0x00#8 }
      [] [0xF6#8, 0x05#8] 8
      (fun s => { s with a := 0x55#8, pc := 0x0102#16 })
      [] = true := by decide

theorem test_A21_cp_n8 :
    takes { State.reset with a := 0x3C#8, f := 0x00#8 }
      [] [0xFE#8, 0x40#8] 8
      (fun s => { s with f := 0x50#8, pc := 0x0102#16 })
      [] = true := by decide

theorem test_A22_cp_n8 :
    takes { State.reset with a := 0x3C#8, f := 0x00#8 }
      [] [0xFE#8, 0x3C#8] 8
      (fun s => { s with f := 0xC0#8, pc := 0x0102#16 })
      [] = true := by decide

theorem test_A23_cp_hlInd :
    takes { State.reset with a := 0x3C#8, h := 0xC0#8, l := 0x00#8, f := 0x00#8 }
      [(0xC000#16, 0x0F#8)] [0xBE#8] 8
      (fun s => { s with f := 0x60#8, pc := 0x0101#16 })
      [] = true := by decide

theorem test_A24_inc_b :
    takes { State.reset with b := 0xFF#8, f := 0x10#8 }
      [] [0x04#8] 4
      (fun s => { s with f := 0xB0#8, b := 0x00#8, pc := 0x0101#16 })
      [] = true := by decide

theorem test_A25_inc_b :
    takes { State.reset with b := 0x0F#8, f := 0x00#8 }
      [] [0x04#8] 4
      (fun s => { s with f := 0x20#8, b := 0x10#8, pc := 0x0101#16 })
      [] = true := by decide

theorem test_A26_inc_hlInd :
    takes { State.reset with h := 0xC0#8, l := 0x00#8, f := 0x00#8 }
      [(0xC000#16, 0x7F#8)] [0x34#8] 12
      (fun s => { s with f := 0x20#8, pc := 0x0101#16 })
      [(0xC000#16, 0x80#8)] = true := by decide

theorem test_A27_dec_b :
    takes { State.reset with b := 0x01#8, f := 0x00#8 }
      [] [0x05#8] 4
      (fun s => { s with f := 0xC0#8, b := 0x00#8, pc := 0x0101#16 })
      [] = true := by decide

theorem test_A28_dec_a :
    takes { State.reset with a := 0x00#8, f := 0x10#8 }
      [] [0x3D#8] 4
      (fun s => { s with a := 0xFF#8, f := 0x70#8, pc := 0x0101#16 })
      [] = true := by decide

theorem test_A29_dec_hlInd :
    takes { State.reset with h := 0xC0#8, l := 0x00#8, f := 0x00#8 }
      [(0xC000#16, 0x10#8)] [0x35#8] 12
      (fun s => { s with f := 0x60#8, pc := 0x0101#16 })
      [(0xC000#16, 0x0F#8)] = true := by decide

theorem test_A30_inc_de :
    takes { State.reset with d := 0x00#8, e := 0xFF#8 }
      [] [0x13#8] 8
      (fun s => { s with d := 0x01#8, e := 0x00#8, pc := 0x0101#16 })
      [] = true := by decide

theorem test_A31_inc_sp :
    takes { State.reset with sp := 0xFFFF#16 }
      [] [0x33#8] 8
      (fun s => { s with sp := 0x0000#16, pc := 0x0101#16 })
      [] = true := by decide

theorem test_A32_dec_bc :
    takes { State.reset with b := 0x00#8, c := 0x00#8 }
      [] [0x0B#8] 8
      (fun s => { s with b := 0xFF#8, c := 0xFF#8, pc := 0x0101#16 })
      [] = true := by decide

theorem test_A33_add_hl_bc :
    takes { State.reset with h := 0x0F#8, l := 0xFF#8, b := 0x00#8, c := 0x01#8, f := 0x80#8 }
      [] [0x09#8] 8
      (fun s => { s with f := 0xA0#8, h := 0x10#8, l := 0x00#8, pc := 0x0101#16 })
      [] = true := by decide

theorem test_A34_add_hl_hl :
    takes { State.reset with h := 0x80#8, l := 0x00#8, f := 0x00#8 }
      [] [0x29#8] 8
      (fun s => { s with f := 0x10#8, h := 0x00#8, pc := 0x0101#16 })
      [] = true := by decide

theorem test_A35_add_hl_sp :
    takes { State.reset with h := 0xFF#8, l := 0xFF#8, sp := 0x0001#16, f := 0x00#8 }
      [] [0x39#8] 8
      (fun s => { s with f := 0x30#8, h := 0x00#8, l := 0x00#8, pc := 0x0101#16 })
      [] = true := by decide

theorem test_A36_add_sp_e :
    takes { State.reset with sp := 0xFFF8#16, f := 0x80#8 }
      [] [0xE8#8, 0x08#8] 16
      (fun s => { s with f := 0x30#8, sp := 0x0000#16, pc := 0x0102#16 })
      [] = true := by decide

theorem test_A37_add_sp_e :
    takes { State.reset with sp := 0x0000#16, f := 0x00#8 }
      [] [0xE8#8, 0xFF#8] 16
      (fun s => { s with sp := 0xFFFF#16, pc := 0x0102#16 })
      [] = true := by decide

theorem test_J1_jp_nn :
    takes State.reset
      [] [0xC3#8, 0x50#8, 0x01#8] 16
      (fun s => { s with pc := 0x0150#16 })
      [] = true := by decide

theorem test_J2_jp_z_nn :
    takes { State.reset with f := 0x80#8 }
      [] [0xCA#8, 0x00#8, 0x02#8] 16
      (fun s => { s with pc := 0x0200#16 })
      [] = true := by decide

theorem test_J3_jp_z_nn :
    takes { State.reset with f := 0x00#8 }
      [] [0xCA#8, 0x00#8, 0x02#8] 12
      (fun s => { s with pc := 0x0103#16 })
      [] = true := by decide

theorem test_J4_jp_nc_nn :
    takes { State.reset with f := 0x10#8 }
      [] [0xD2#8, 0x00#8, 0x02#8] 12
      (fun s => { s with pc := 0x0103#16 })
      [] = true := by decide

theorem test_J5_jp_hl :
    takes { State.reset with h := 0x40#8, l := 0x00#8 }
      [] [0xE9#8] 4
      (fun s => { s with pc := 0x4000#16 })
      [] = true := by decide

theorem test_J6_jr_e :
    takes State.reset
      [] [0x18#8, 0xFE#8] 12
      (fun s => { s with pc := 0x0100#16 })
      [] = true := by decide

theorem test_J8_jr_e :
    takes { State.reset with pc := 0xFFFE#16 }
      [] [0x18#8, 0x05#8] 12
      (fun s => { s with pc := 0x0005#16 })
      [] = true := by decide

theorem test_J9_jr_nz_e :
    takes { State.reset with pc := 0x0105#16, f := 0x00#8 }
      [] [0x20#8, 0xFB#8] 12
      (fun s => { s with pc := 0x0102#16 })
      [] = true := by decide

theorem test_J10_jr_nz_e :
    takes { State.reset with pc := 0x0105#16, f := 0x80#8 }
      [] [0x20#8, 0xFB#8] 8
      (fun s => { s with pc := 0x0107#16 })
      [] = true := by decide

theorem test_J11_jr_c_e :
    takes { State.reset with f := 0x10#8 }
      [] [0x38#8, 0x10#8] 12
      (fun s => { s with pc := 0x0112#16 })
      [] = true := by decide

theorem test_J12_call_nn :
    takes { State.reset with sp := 0xFFFE#16 }
      [] [0xCD#8, 0x00#8, 0x02#8] 24
      (fun s => { s with sp := 0xFFFC#16, pc := 0x0200#16 })
      [(0xFFFC#16, 0x03#8), (0xFFFD#16, 0x01#8)] = true := by decide

theorem test_J13_call_c_nn :
    takes { State.reset with f := 0x00#8 }
      [] [0xDC#8, 0x00#8, 0x02#8] 12
      (fun s => { s with pc := 0x0103#16 })
      [] = true := by decide

theorem test_J14_call_z_nn :
    takes { State.reset with f := 0x80#8, sp := 0xD000#16 }
      [] [0xCC#8, 0x34#8, 0x12#8] 24
      (fun s => { s with sp := 0xCFFE#16, pc := 0x1234#16 })
      [(0xCFFE#16, 0x03#8), (0xCFFF#16, 0x01#8)] = true := by decide

theorem test_J15_ret :
    takes { State.reset with sp := 0xFFFC#16 }
      [(0xFFFC#16, 0x03#8), (0xFFFD#16, 0x01#8)] [0xC9#8] 16
      (fun s => { s with sp := 0xFFFE#16, pc := 0x0103#16 })
      [] = true := by decide

theorem test_J16_ret_nz :
    takes { State.reset with f := 0x00#8, sp := 0xFFFC#16 }
      [(0xFFFC#16, 0x03#8), (0xFFFD#16, 0x01#8)] [0xC0#8] 20
      (fun s => { s with sp := 0xFFFE#16, pc := 0x0103#16 })
      [] = true := by decide

theorem test_J17_ret_nz :
    takes { State.reset with f := 0x80#8, sp := 0xFFFC#16 }
      [(0xFFFC#16, 0x03#8), (0xFFFD#16, 0x01#8)] [0xC0#8] 8
      (fun s => { s with pc := 0x0101#16 })
      [] = true := by decide

theorem test_J18_reti :
    takes { State.reset with ime := false, sp := 0xFFFC#16 }
      [(0xFFFC#16, 0x03#8), (0xFFFD#16, 0x01#8)] [0xD9#8] 16
      (fun s => { s with sp := 0xFFFE#16, pc := 0x0103#16, ime := true })
      [] = true := by decide

theorem test_J19_rst_28h :
    takes { State.reset with pc := 0x0200#16, sp := 0xFFFE#16 }
      [] [0xEF#8] 16
      (fun s => { s with sp := 0xFFFC#16, pc := 0x0028#16 })
      [(0xFFFC#16, 0x01#8), (0xFFFD#16, 0x02#8)] = true := by decide

theorem test_J20_rst_38h :
    takes { State.reset with pc := 0x0038#16, sp := 0xFFFE#16 }
      [] [0xFF#8] 16
      (fun s => { s with sp := 0xFFFC#16, pc := 0x0038#16 })
      [(0xFFFC#16, 0x39#8)] = true := by decide

theorem test_M1_rlca :
    takes { State.reset with a := 0x85#8, f := 0x00#8 }
      [] [0x07#8] 4
      (fun s => { s with a := 0x0B#8, f := 0x10#8, pc := 0x0101#16 })
      [] = true := by decide

theorem test_M2_rlca :
    takes { State.reset with a := 0x00#8, f := 0x80#8 }
      [] [0x07#8] 4
      (fun s => { s with f := 0x00#8, pc := 0x0101#16 })
      [] = true := by decide

theorem test_M3_rrca :
    takes { State.reset with a := 0x3B#8, f := 0x00#8 }
      [] [0x0F#8] 4
      (fun s => { s with a := 0x9D#8, f := 0x10#8, pc := 0x0101#16 })
      [] = true := by decide

theorem test_M4_rla :
    takes { State.reset with a := 0x95#8, f := 0x10#8 }
      [] [0x17#8] 4
      (fun s => { s with a := 0x2B#8, pc := 0x0101#16 })
      [] = true := by decide

theorem test_M5_rla :
    takes { State.reset with a := 0x80#8, f := 0x00#8 }
      [] [0x17#8] 4
      (fun s => { s with a := 0x00#8, f := 0x10#8, pc := 0x0101#16 })
      [] = true := by decide

theorem test_M6_rra :
    takes { State.reset with a := 0x81#8, f := 0x00#8 }
      [] [0x1F#8] 4
      (fun s => { s with a := 0x40#8, f := 0x10#8, pc := 0x0101#16 })
      [] = true := by decide

theorem test_M7_rra :
    takes { State.reset with a := 0x01#8, f := 0x10#8 }
      [] [0x1F#8] 4
      (fun s => { s with a := 0x80#8, pc := 0x0101#16 })
      [] = true := by decide

theorem test_M9_daa :
    takes { State.reset with a := 0x9A#8, f := 0x00#8 }
      [] [0x27#8] 4
      (fun s => { s with a := 0x00#8, f := 0x90#8, pc := 0x0101#16 })
      [] = true := by decide

theorem test_M11_daa :
    takes { State.reset with a := 0x0F#8, f := 0x60#8 }
      [] [0x27#8] 4
      (fun s => { s with a := 0x09#8, f := 0x40#8, pc := 0x0101#16 })
      [] = true := by decide

theorem test_M14_cpl :
    takes { State.reset with a := 0x35#8, f := 0x00#8 }
      [] [0x2F#8] 4
      (fun s => { s with a := 0xCA#8, f := 0x60#8, pc := 0x0101#16 })
      [] = true := by decide

theorem test_M15_cpl :
    takes { State.reset with a := 0xFF#8, f := 0x10#8 }
      [] [0x2F#8] 4
      (fun s => { s with a := 0x00#8, f := 0x70#8, pc := 0x0101#16 })
      [] = true := by decide

theorem test_M16_scf :
    takes { State.reset with f := 0xE0#8 }
      [] [0x37#8] 4
      (fun s => { s with f := 0x90#8, pc := 0x0101#16 })
      [] = true := by decide

theorem test_M17_ccf :
    takes { State.reset with f := 0xF0#8 }
      [] [0x3F#8] 4
      (fun s => { s with f := 0x80#8, pc := 0x0101#16 })
      [] = true := by decide

theorem test_M18_ccf :
    takes { State.reset with f := 0x80#8 }
      [] [0x3F#8] 4
      (fun s => { s with f := 0x90#8, pc := 0x0101#16 })
      [] = true := by decide

theorem test_M19_nop :
    takes State.reset
      [] [0x00#8] 4
      (fun s => { s with pc := 0x0101#16 })
      [] = true := by decide

theorem test_M20_stop :
    takes State.reset
      [] [0x10#8, 0x00#8] 4
      (fun s => { s with pc := 0x0101#16 })
      [] = true := by decide

theorem test_M22_halt :
    takes { State.reset with pc := 0x0150#16 }
      [] [0x76#8] 4
      (fun s => { s with pc := 0x0151#16, halt := true })
      [] = true := by decide

theorem test_M23_halted :
    takes { State.reset with pc := 0x0151#16, halt := true }
      [] [0x3C#8] 4
      (fun s => { s with pc := 0x0151#16 })
      [] = true := by decide

theorem test_M24_di :
    takes { State.reset with ime := true }
      [] [0xF3#8] 4
      (fun s => { s with pc := 0x0101#16, ime := false })
      [] = true := by decide

theorem test_M25_ei :
    takes { State.reset with ime := false }
      [] [0xFB#8] 4
      (fun s => { s with pc := 0x0101#16, ime := true })
      [] = true := by decide

theorem test_B1_rlc_b :
    takes { State.reset with b := 0x85#8, f := 0x00#8 }
      [] [0xCB#8, 0x00#8] 8
      (fun s => { s with f := 0x10#8, b := 0x0B#8, pc := 0x0102#16 })
      [] = true := by decide

theorem test_B2_rlc_b :
    takes { State.reset with b := 0x00#8, f := 0x10#8 }
      [] [0xCB#8, 0x00#8] 8
      (fun s => { s with f := 0x80#8, pc := 0x0102#16 })
      [] = true := by decide

theorem test_B3_rrc_c :
    takes { State.reset with c := 0x01#8, f := 0x00#8 }
      [] [0xCB#8, 0x09#8] 8
      (fun s => { s with f := 0x10#8, c := 0x80#8, pc := 0x0102#16 })
      [] = true := by decide

theorem test_B4_rl_d :
    takes { State.reset with d := 0x80#8, f := 0x00#8 }
      [] [0xCB#8, 0x12#8] 8
      (fun s => { s with f := 0x90#8, d := 0x00#8, pc := 0x0102#16 })
      [] = true := by decide

theorem test_B5_rr_e :
    takes { State.reset with e := 0x01#8, f := 0x10#8 }
      [] [0xCB#8, 0x1B#8] 8
      (fun s => { s with e := 0x80#8, pc := 0x0102#16 })
      [] = true := by decide

theorem test_B6_sla_h :
    takes { State.reset with h := 0xFF#8, f := 0x00#8 }
      [] [0xCB#8, 0x24#8] 8
      (fun s => { s with f := 0x10#8, h := 0xFE#8, pc := 0x0102#16 })
      [] = true := by decide

theorem test_B7_sra_l :
    takes { State.reset with l := 0x81#8, f := 0x00#8 }
      [] [0xCB#8, 0x2D#8] 8
      (fun s => { s with f := 0x10#8, l := 0xC0#8, pc := 0x0102#16 })
      [] = true := by decide

theorem test_B8_sra_hlInd :
    takes { State.reset with h := 0xC0#8, l := 0x00#8, f := 0x00#8 }
      [(0xC000#16, 0xFF#8)] [0xCB#8, 0x2E#8] 16
      (fun s => { s with f := 0x10#8, pc := 0x0102#16 })
      [] = true := by decide

theorem test_B9_srl_a :
    takes { State.reset with a := 0x01#8, f := 0x00#8 }
      [] [0xCB#8, 0x3F#8] 8
      (fun s => { s with a := 0x00#8, f := 0x90#8, pc := 0x0102#16 })
      [] = true := by decide

theorem test_B10_srl_hlInd :
    takes { State.reset with h := 0xC0#8, l := 0x00#8, f := 0x00#8 }
      [(0xC000#16, 0x80#8)] [0xCB#8, 0x3E#8] 16
      (fun s => { s with pc := 0x0102#16 })
      [(0xC000#16, 0x40#8)] = true := by decide

theorem test_B11_swap_a :
    takes { State.reset with a := 0xF0#8, f := 0x10#8 }
      [] [0xCB#8, 0x37#8] 8
      (fun s => { s with a := 0x0F#8, f := 0x00#8, pc := 0x0102#16 })
      [] = true := by decide

theorem test_B12_swap_a :
    takes { State.reset with a := 0x00#8, f := 0x70#8 }
      [] [0xCB#8, 0x37#8] 8
      (fun s => { s with f := 0x80#8, pc := 0x0102#16 })
      [] = true := by decide

theorem test_B13_swap_hlInd :
    takes { State.reset with h := 0xC0#8, l := 0x00#8, f := 0x00#8 }
      [(0xC000#16, 0x12#8)] [0xCB#8, 0x36#8] 16
      (fun s => { s with pc := 0x0102#16 })
      [(0xC000#16, 0x21#8)] = true := by decide

theorem test_B14_bit_7_h :
    takes { State.reset with h := 0x7F#8, f := 0x10#8 }
      [] [0xCB#8, 0x7C#8] 8
      (fun s => { s with f := 0xB0#8, pc := 0x0102#16 })
      [] = true := by decide

theorem test_B15_bit_0_a :
    takes { State.reset with a := 0x01#8, f := 0x00#8 }
      [] [0xCB#8, 0x47#8] 8
      (fun s => { s with f := 0x20#8, pc := 0x0102#16 })
      [] = true := by decide

theorem test_B16_bit_0_hlInd :
    takes { State.reset with h := 0xC0#8, l := 0x00#8, f := 0x00#8 }
      [(0xC000#16, 0x00#8)] [0xCB#8, 0x46#8] 12
      (fun s => { s with f := 0xA0#8, pc := 0x0102#16 })
      [] = true := by decide

theorem test_B17_set_7_hlInd :
    takes { State.reset with h := 0xC0#8, l := 0x00#8, f := 0x00#8 }
      [] [0xCB#8, 0xFE#8] 16
      (fun s => { s with pc := 0x0102#16 })
      [(0xC000#16, 0x80#8)] = true := by decide

theorem test_B18_set_3_b :
    takes { State.reset with b := 0x00#8 }
      [] [0xCB#8, 0xD8#8] 8
      (fun s => { s with b := 0x08#8, pc := 0x0102#16 })
      [] = true := by decide

theorem test_B19_res_0_a :
    takes { State.reset with a := 0xFF#8 }
      [] [0xCB#8, 0x87#8] 8
      (fun s => { s with a := 0xFE#8, pc := 0x0102#16 })
      [] = true := by decide

theorem test_B20_res_7_hlInd :
    takes { State.reset with h := 0xC0#8, l := 0x00#8 }
      [(0xC000#16, 0xFF#8)] [0xCB#8, 0xBE#8] 16
      (fun s => { s with pc := 0x0102#16 })
      [(0xC000#16, 0x7F#8)] = true := by decide

theorem test_B21_set_7_h :
    takes { State.reset with h := 0x00#8, l := 0x01#8 }
      [] [0xCB#8, 0xFC#8] 8
      (fun s => { s with h := 0x80#8, pc := 0x0102#16 })
      [] = true := by decide

/-! ## The renderer: the vectors G of `95_test_vectors.md` section 2 -/

theorem test_G1 :
    getPixel (place [] State.reset) 0 0 = .ok 0xFFFFFF#32 := rfl

theorem test_G2 :
    getPixel (place [(0x9000#16, 0x80#8), (0x9001#16, 0x80#8), (0xFF40#16, 0x81#8)] State.reset) 0 0 = .ok 0x000000#32 := rfl

theorem test_G3 :
    getPixel (place [(0x8800#16, 0x80#8), (0x9800#16, 0x80#8), (0xFF40#16, 0x81#8)] State.reset) 0 0 = .ok 0xAAAAAA#32 := rfl

theorem test_G4 :
    getPixel (place [(0x8FF1#16, 0x80#8), (0x9800#16, 0xFF#8), (0xFF40#16, 0x81#8)] State.reset) 0 0 = .ok 0x555555#32 := rfl

theorem test_G5 :
    getPixel (place [(0x97F0#16, 0x80#8), (0x97F1#16, 0x80#8), (0x9800#16, 0x7F#8), (0xFF40#16, 0x81#8)] State.reset) 0 0 = .ok 0x000000#32 := rfl

theorem test_G6 :
    getPixel (place [(0x8800#16, 0x80#8), (0x9800#16, 0x80#8), (0xFF40#16, 0x91#8)] State.reset) 0 0 = .ok 0xAAAAAA#32 := rfl

theorem test_G7 :
    getPixel (place [(0x8021#16, 0x80#8), (0x9C00#16, 0x02#8), (0xFF40#16, 0x99#8)] State.reset) 0 0 = .ok 0x555555#32 := rfl

theorem test_G8 :
    getPixel (place [(0x8021#16, 0x80#8), (0x9800#16, 0x02#8), (0xFF40#16, 0x99#8)] State.reset) 0 0 = .ok 0xFFFFFF#32 := rfl

theorem test_G9 :
    getPixel (place [(0x805E#16, 0x01#8), (0x805F#16, 0x01#8), (0x9A33#16, 0x05#8)] State.reset) 159 143 = .ok 0x000000#32 := rfl

theorem test_G10 :
    getPixel (place [(0x8012#16, 0x40#8), (0x9820#16, 0x01#8)] State.reset) 1 9 = .ok 0xAAAAAA#32 := rfl

theorem test_G11 :
    getPixel (place [(0x8000#16, 0x01#8)] State.reset) 7 0 = .ok 0xAAAAAA#32 := rfl

theorem test_G12 :
    getPixel (place [(0x8000#16, 0x01#8)] State.reset) 8 0 = .ok 0xFFFFFF#32 := rfl

theorem test_G13 :
    getPixel (place [(0xFF47#16, 0x1B#8)] State.reset) 0 0 = .ok 0x000000#32 := rfl

theorem test_G14 :
    getPixel (place [(0x8000#16, 0xFF#8), (0x8001#16, 0xFF#8), (0xFF47#16, 0x1B#8)] State.reset) 0 0 = .ok 0xFFFFFF#32 := rfl

theorem test_G15 :
    getPixel (place [(0x8000#16, 0xFF#8), (0x8001#16, 0xFF#8), (0xFF47#16, 0x00#8)] State.reset) 0 0 = .ok 0xFFFFFF#32 := rfl

theorem test_G16 :
    getPixel (place [(0x8001#16, 0x80#8), (0xFF47#16, 0xE4#8)] State.reset) 0 0 = .ok 0x555555#32 := rfl

theorem test_G17 :
    getPixel (place [(0x8000#16, 0x80#8), (0xFF40#16, 0x10#8)] State.reset) 0 0 = .ok 0xAAAAAA#32 := rfl

theorem test_G18 :
    getPixel (place [] State.reset) 160 0 = .error .pixelOutsideFrame := rfl

theorem test_G19 :
    getPixel (place [] State.reset) 0 144 = .error .pixelOutsideFrame := rfl

theorem test_G20 :
    getPixel (place [] State.reset) (-1) 0 = .error .pixelOutsideFrame := rfl

/-- Scenario S-F: the tile of section 1.1, pixels (1, 0) and (3, 3). -/
theorem test_SF_tile :
    let s := State.reset.writeBytes 0x8000#16 [0x3C#8, 0x7E#8, 0x42#8, 0x42#8, 0x42#8, 0x42#8, 0x7E#8, 0x00#8]
    getPixel s 1 0 = .ok 0x555555#32 ∧ getPixel s 3 3 = .ok 0xAAAAAA#32 := ⟨rfl, rfl⟩

/-! ## The error event, the fault, the load -/

/-- M27, M28: the two policies. -/
theorem test_M27_record :
    (State.reset.raiseUnimplemented .record 0xD3#8).unimpl = some 0xD3#8 ∧
    (State.reset.raiseUnimplemented .record 0xD3#8).fault = none := ⟨rfl, rfl⟩

theorem test_M28_fatal :
    State.reset.raiseUnimplemented .fatal 0xD3#8 =
      { State.reset with fault := some (.unimplementedOpcode 0xD3#8) } := rfl

/-- M29: no step after a fault. -/
theorem test_M29_faulted :
    step { State.reset with fault := some (.unimplementedOpcode 0xD3#8) } = .fault (.unimplementedOpcode 0xD3#8) := rfl

/-- W1 (R194): the boot state. -/
theorem test_W1_boot : State.reset.af = 0x01B0#16 ∧ State.reset.hl = 0x014D#16 ∧ State.reset.lcdc = 0x91#8 := by decide

/-- W2 (R45): a word read wraps past 0xFFFF. -/
theorem test_W2_word_wraps :
    (place [(0xFFFF#16, 0x34#8), (0x0000#16, 0x12#8)] State.reset).readWord 0xFFFF#16 = 0x1234#16 := by decide

/-- Prop-3 (R46): a word written at 0xFFFF. -/
theorem test_Prop3_word_write :
    State.reset.writeWord 0xFFFF#16 0x1234#16 = place [(0xFFFF#16, 0x34#8), (0x0000#16, 0x12#8)] State.reset := by decide

/-- Writing a byte's init value unlists it (`20_memory.md` R42; log 15). -/
theorem test_write_init_value : ((State.reset.writeByte 0xFF47#16 0x1B#8).writeByte 0xFF47#16 0xE4#8).mem = [] := by decide

/-- R195: an image's first byte is stored at address 0. -/
theorem test_load_places_image :
    (match launch (some [0x31#8, 0xFE#8]) with
      | .ok s => some (s.readByte 0x0000#16, s.readByte 0x0001#16, s.pc)
      | .error _ => none) = some (0x31#8, 0xFE#8, 0x0100#16) := by decide

/-! ## The host's frame loop (`60_exceptions.md` R189, R190) -/

/-- A batch of 6 T-cycles from reset is two NOPs of 4; with a bound of one step it is not over. -/
theorem test_batch_complete_and_unfinished :
    pump 6 2 State.reset = .complete { State.reset with pc := 0x0102#16, cycles := 8 } ∧
    pump 6 1 State.reset = .unfinished { State.reset with pc := 0x0101#16, cycles := 4 } := by decide

/-- A frame asked of a state whose fault mark is set: the run has ended, and no frame is handed over. -/
theorem test_frame_after_fault :
    let s := { State.reset with fault := some (.unimplementedOpcode 0xD3#8) }
    hostLoop 3 [.frame, .frame] s = { core := s, frames := [], status := .faulted } := rfl

/-- QUIT and ESCAPE: the frames after them are not run. -/
theorem test_quit_and_escape :
    hostLoop 3 [.quit, .frame] State.reset = { core := State.reset, frames := [], status := .quit } ∧
    hostLoop 3 [.escape, .frame] State.reset = { core := State.reset, frames := [], status := .quit } := ⟨rfl, rfl⟩

/-! ## The opcode-table words -/

theorem test_table_word_plain : decodeTableWord 8 0x78 = some .ld_a_b := rfl

theorem test_table_word_operands_zero : decodeTableWord 8 0xFA = some (.ld_a_nnInd 0x0000#16) := rfl

/-- R73 writes the word of `CB 37` as 0xCB37; numbered from the first byte it is 0x37CB. -/
theorem test_table_word_cb : decodeTableWord 16 0xCB37 = some .swap_a ∧ decodeTableWord 16 0x37CB = some .swap_a :=
  ⟨rfl, rfl⟩

theorem test_fetch_word :
    (match step (State.reset.withFetchWord 16 0xCB37) with
      | .next t => some (t.a, t.pc)
      | .fault _ => none
      | .refused _ => none) = some (0x10#8, 0x0102#16) := by decide

/-! ## Witnesses: the hypotheses of each statement can be met -/

/-- A state that runs `LD (HL),A` at 0x0100. -/
def storing : State := { State.reset.writeBytes 0x0100#16 [0x77#8] with h := 0xC0#8, l := 0x00#8 }

/-- A state that runs POP AF with 0x12FF on the stack. -/
def popping : State := (State.reset.writeBytes 0x0100#16 [0xF1#8]).writeBytes 0xFFFE#16 [0xFF#8, 0x12#8]

/-- A state whose PC is 0xFFFF, with the bytes of `LD BC,0x1234` there, at 0x0000 and at 0x0001. -/
def wrapping : State := { State.reset.writeBytes 0xFFFF#16 [0x01#8, 0x34#8, 0x12#8] with pc := 0xFFFF#16 }

theorem witness_DecodeInvertsEncode :
    Instr.nop.WellFormed ∧ (Instr.ld_bc_n16 0xFFFF#16).WellFormed ∧ (Instr.unimplemented 0xD3#8).WellFormed := by decide

theorem witness_EncodeInvertsDecode : decode [0x3E#8, 0x42#8, 0x76#8] = .ok (.ld_a_n8 0x42#8, [0x76#8]) := rfl

theorem witness_StepKeepsFlagNibbleZero : popping.nibbleZero ∧ ∃ t, step popping = .next t := ⟨by decide, _, rfl⟩

theorem witness_StepKeepsMemoryCanonical : storing.mem.wf ∧ storing.mem ≠ [] ∧ ∃ t, step storing = .next t :=
  ⟨by decide, by decide, _, rfl⟩

theorem witness_CanonicalMemoryIsUnique :
    Memory.wf [(0x0100, 0x77#8), (0xFFFF, 0x01#8)] ∧
    ∀ a : Word, Memory.read [(0x0100, 0x77#8), (0xFFFF, 0x01#8)] a =
      Memory.read (Memory.write [(0xFFFF, 0x01#8)] 0x0100#16 0x77#8) a := ⟨by decide, fun _ => rfl⟩

theorem witness_StepRunsDecodedInstruction :
    wrapping.fault = none ∧ wrapping.halt = false ∧ (Instr.ld_bc_n16 0x1234#16).WellFormed ∧
    ∀ k (_ : k < (encode (.ld_bc_n16 0x1234#16)).length),
      wrapping.readByte (wrapping.pc + BitVec.ofNat 16 k) = (encode (.ld_bc_n16 0x1234#16))[k] := by decide

theorem witness_HaltedStepOnlyCounts :
    ({ State.reset with halt := true } : State).fault = none ∧ ({ State.reset with halt := true } : State).halt = true :=
  ⟨rfl, rfl⟩

theorem witness_FaultedStateTakesNoStep :
    ({ State.reset with fault := some (.unimplementedOpcode 0xD3#8), halt := true } : State).fault =
      some (.unimplementedOpcode 0xD3#8) := rfl

theorem witness_EveryInstructionCompletesAtTableCost :
    (∀ op, Form.callIf .z 0x1234#16 ≠ .unimplemented op) ∧ ∀ op, Form.rotate .swap .atHl ≠ .unimplemented op :=
  ⟨nofun, nofun⟩

theorem witness_CyclesNeverDecrease : ∃ t, step storing = .next t := ⟨_, rfl⟩

theorem witness_ImeIsOnlyBookkeeping :
    Instr.ld_hlInd_a ≠ .di ∧ Instr.ld_hlInd_a ≠ .ei ∧ Instr.ld_hlInd_a ≠ .reti ∧
    (∃ t, exec .ld_hlInd_a storing = .next t) ∧ ∃ t, step storing = .next t :=
  ⟨by decide, by decide, by decide, ⟨_, rfl⟩, _, rfl⟩

theorem witness_HaltAndDiagnosticsFrame :
    (Instr.stop ≠ .halt ∧ ∃ t, exec .stop storing = .next t) ∧
    ((∀ op, Instr.halt ≠ .unimplemented op) ∧ ∃ t, exec .halt storing = .next t) ∧
    ∃ t, step { storing with halt := true } = .next t :=
  ⟨⟨by decide, _, rfl⟩, ⟨nofun, _, rfl⟩, _, rfl⟩

theorem witness_HaltedCoreIsQuiescent :
    ({ storing with halt := true, cycles := 7 } : State).fault = none ∧
    ({ storing with halt := true, cycles := 7 } : State).halt = true := ⟨rfl, rfl⟩

theorem witness_ProgramCannotObserveBookkeeping :
    storing ≠ { storing with ime := true, halt := true, cycles := 9, unimpl := some 0xED#8 } ∧
    storing.programView =
      ({ storing with ime := true, halt := true, cycles := 9, unimpl := some 0xED#8 } : State).programView := by decide

theorem witness_FrameRegisters :
    (∃ t, exec (Form.ldAHlInc).instr storing = .next t) ∧ Reg8.b ∉ (Form.ldAHlInc).registers ∧
    (Form.ldAHlInc).writesSp = false ∧ (Form.ldAHlInc).transfers = false := ⟨⟨_, rfl⟩, by decide, rfl, rfl⟩

theorem witness_FrameFlags :
    (∃ t, exec (Form.pop .af).instr popping = .next t) ∧ (∃ t, exec (Form.pop .hl).instr popping = .next t) ∧
    Form.pop .hl ≠ .pop .af := ⟨⟨_, rfl⟩, ⟨_, rfl⟩, by decide⟩

theorem witness_FrameMemory :
    (∃ t, exec (Form.push .bc).instr storing = .next t) ∧ 0xFFFC#16 ∈ (Form.push .bc).stored storing ∧
    0xFFFD#16 ∈ (Form.push .bc).stored storing ∧ 0xFFFE#16 ∉ (Form.push .bc).stored storing :=
  ⟨⟨_, rfl⟩, by decide, by decide, by decide⟩

theorem witness_WordsAreLittleEndian :
    0x0001#16 ≠ 0xFFFF#16 ∧ 0x0001#16 ≠ BitVec.ofNat 16 ((0xFFFF#16).toNat + 1) := by decide

theorem witness_PushAndPopHelpers :
    0x0001#16 ≠ (0x0001#16 - 2#16 : Word) ∧ 0x0001#16 ≠ (0x0001#16 - 1#16 : Word) := by decide

theorem witness_ConditionsTestZOrC : storing ≠ popping ∧ popping.f = storing.f := by decide

theorem witness_PushAndPop : StackPair.bc ≠ .af := by decide

theorem witness_RotatesAndShifts :
    (Form.rra, RotateOp.rr) ∈
      [(Form.rlca, RotateOp.rlc), (Form.rrca, RotateOp.rrc), (Form.rla, RotateOp.rl), (Form.rra, RotateOp.rr)] ∧
    RotateOp.sra ≠ .swap := by decide

theorem witness_DecimalArithmetic :
    (99 < 100 ∧ 67 < 100 ∧ ({ State.reset with a := 0x99#8 } : State).a = bcd 99) ∧
    (0 < 100 ∧ ({ State.reset with a := 0x00#8 } : State).a = bcd 0) := by decide

theorem witness_PixelAlgorithm :
    (159 < 160 ∧ 143 < 144) ∧ ¬ ((0 : Int) ≤ 160 ∧ (160 : Int) < 160 ∧ (0 : Int) ≤ 0 ∧ (0 : Int) < 144) ∧
    ¬ ((0 : Int) ≤ 0 ∧ (0 : Int) < 160 ∧ (0 : Int) ≤ 144 ∧ (144 : Int) < 144) ∧
    ¬ ((0 : Int) ≤ -1 ∧ (-1 : Int) < 160 ∧ (0 : Int) ≤ 0 ∧ (0 : Int) < 144) := by decide

/-- Two different states that agree on LCDC bits 3 and 4, on BGP and on VRAM: LCDC differs in bit 7, and 0xC000 differs. -/
theorem witness_RendererReadsOnlyVram :
    let s := State.reset
    let t := (State.reset.writeByte 0xFF40#16 0x11#8).writeByte 0xC000#16 0x77#8
    s ≠ t ∧ (s.readByte 0xFF40#16).getLsbD 3 = (t.readByte 0xFF40#16).getLsbD 3 ∧
    (s.readByte 0xFF40#16).getLsbD 4 = (t.readByte 0xFF40#16).getLsbD 4 ∧
    s.readByte 0xFF47#16 = t.readByte 0xFF47#16 ∧
    ∀ a : Word, 0x8000 ≤ a.toNat → a.toNat < 0xA000 → s.readByte a = t.readByte a := by
  refine ⟨by decide, by decide, by decide, by decide, fun a _ hi => ?_⟩
  have h1 : a ≠ 0xC000#16 := by rintro rfl; simp at hi
  have h2 : a ≠ 0xFF40#16 := by rintro rfl; simp at hi
  simp [h1, h2]

theorem witness_LaunchLoadsTheImage :
    (List.replicate 65536 0x76#8).length ≤ 65536 ∧ (List.replicate 65537 0x76#8).length > 65536 := by
  simp only [List.length_replicate]
  decide

end Sys2Proof.Tests
end

section
/-! PROOFS. The pair views and the two HL-stepping reads (`10_state.md` R17, R18, R24). -/

namespace Sys2Proof.Machine

/-- The mask of `set_af` in exact arithmetic (`10_state.md` R18). -/
theorem and_0xF0_eq_ofNat (v : Byte) : v &&& 0xF0#8 = BitVec.ofNat 8 (v.toNat / 16 * 16) := by
  revert v; decide

@[simp] theorem State.hl_setHl (s : State) (v : Word) : (s.setHl v).hl = v :=
  pairWord_hiByte_loByte v

@[simp] theorem State.hli_f (s : State) : s.hli.2.f = s.f := rfl

@[simp] theorem State.hld_f (s : State) : s.hld.2.f = s.f := rfl

/-- A write of HL changes H and L only. -/
theorem State.setHl_frame (s : State) (v : Word) : { s.setHl v with h := s.h, l := s.l } = s := rfl

/-- Settles O25, from the halves of a word in exact arithmetic and, for AF, the mask. -/
theorem pairViewsFuseTwoCells : Obligations.PairViewsFuseTwoCells := by
  intro s v
  refine ⟨pairWord_toNat _ _, pairWord_toNat _ _, pairWord_toNat _ _, pairWord_toNat _ _, ?_, ?_, ?_, ?_⟩
  · rw [State.setBc, hiByte_eq_ofNat, loByte_eq_ofNat]
  · rw [State.setDe, hiByte_eq_ofNat, loByte_eq_ofNat]
  · rw [State.setHl, hiByte_eq_ofNat, loByte_eq_ofNat]
  · rw [State.setAf, hiByte_eq_ofNat, and_0xF0_eq_ofNat, loByte_toNat]

/-- Settles O28: HL is the stepped word, whose value is taken modulo 65 536, and a write of HL changes H and L only. -/
theorem hliAndHldStepHl : Obligations.HliAndHldStepHl := by
  intro s
  refine ⟨rfl, ?_, s.setHl_frame _, rfl, ?_, s.setHl_frame _⟩
  · simp [State.hli]
  · simp [State.hld, word_dec]

end Sys2Proof.Machine
end

section
/-! PROOFS. The low nibble of F along a step (`10_state.md` R18, R19): every form but POP AF leaves it as it was, because F is
written with the flag primitives only; POP AF writes F whole, and masks it. -/

namespace Sys2Proof.Machine

/-- The mask of `set_af` clears what a pop may bring into the low nibble of F (`10_state.md` R18). -/
theorem State.setAf_nibbleZero (s : State) (v : Word) : (s.setAf v).nibbleZero := by
  simp [State.nibbleZero, BitVec.and_assoc]

/-- A write of a pair but AF leaves F as it was. -/
theorem State.setStackPair_f {p : StackPair} (hp : p ≠ .af) (s : State) (v : Word) : (s.setStackPair p v).f = s.f := by
  cases p with
  | af => exact absurd rfl hp
  | bc => rfl
  | de => rfl
  | hl => rfl

/-- POP of a pair but AF leaves F as it was (`40_loads.md` R100). -/
theorem pop_f {p : StackPair} (hp : p ≠ .af) {s t : State} (h : pop p s = .next t) : t.f = s.f := by
  cases h
  exact State.setStackPair_f hp _ _

/-- POP AF leaves the low nibble of F zero (`40_loads.md` R101). -/
theorem pop_af_nibbleZero {s t : State} (h : pop .af s = .next t) : t.nibbleZero := by
  cases h
  exact State.setAf_nibbleZero { s with sp := s.sp + 2#16 } (s.readWord s.sp)

/-- An A-ALU operation writes the four flags with the flag primitives, whether it writes A or not. -/
theorem alu_nibble {op : AluOp} {src : AluSource} {s t : State} (h : alu op src s = .next t) :
    t.f &&& 0x0F#8 = s.f &&& 0x0F#8 := by
  cases h
  cases op.writesA <;> simp

/-- POP AF is the only form that writes F with anything but the flag primitives. -/
theorem meaning_nibble {f : Form} (hf : f ≠ .pop .af) {s t : State} (h : f.meaning s = .next t) :
    t.f &&& 0x0F#8 = s.f &&& 0x0F#8 := by
  cases f with
  | pop p => rw [pop_f (fun hp => hf (hp ▸ rfl)) h]
  | alu op x => exact alu_nibble h
  | aluImm op n => exact alu_nibble h
  | jpIf | jrIf | callIf | retIf => cases h; split <;> simp
  | _ => cases h; simp

/-- POP AF masks; every other form leaves the zeros there (`10_state.md` R19). -/
theorem meaning_nibbleZero {f : Form} {s t : State} (hs : s.nibbleZero) (h : f.meaning s = .next t) : t.nibbleZero := by
  by_cases hf : f = .pop .af
  · subst hf; exact pop_af_nibbleZero h
  · exact (meaning_nibble hf h).trans hs

/-- A halted cycle and the fetch do not touch F (`60_exceptions.md` R168). -/
theorem step_nibbleZero {s t : State} (hs : s.nibbleZero) (h : step s = .next t) : t.nibbleZero := by
  obtain ⟨-, ⟨-, rfl⟩ | ⟨-, hexec⟩⟩ := step_cases h
  · exact hs
  · rw [exec_eq_meaning] at hexec
    exact meaning_nibbleZero (s := s.advance s.fetched.2) hs hexec

/-- Settles O9, by what a step can have done (`step_cases`) and, for an execution, by the cases on its form. -/
theorem stepKeepsFlagNibbleZero : Obligations.StepKeepsFlagNibbleZero :=
  ⟨rfl, fun _ => ⟨rfl, rfl, rfl, rfl⟩, fun _ _ => step_nibbleZero⟩

end Sys2Proof.Machine
end

section
/-! PROOFS. Bytes and words of memory: what a read gives after a write, and that a write changes memory only (`20_memory.md`
R43 to R46). -/

namespace Sys2Proof.Machine

/-- A byte write changes memory only (`20_memory.md` R44). -/
theorem State.writeByte_frame (s : State) (a : Word) (v : Byte) : { s.writeByte a v with mem := s.mem } = s := rfl

/-- A word write changes memory only (`20_memory.md` R46). -/
theorem State.writeWord_frame (s : State) (a v : Word) : { s.writeWord a v with mem := s.mem } = s := rfl

/-- `read_word` in exact arithmetic (`20_memory.md` R45). -/
theorem State.readWord_toNat (s : State) (a : Word) :
    (s.readWord a).toNat = (s.readByte (a + 1#16)).toNat * 256 + (s.readByte a).toNat :=
  pairWord_toNat _ _

/-- The high byte, written second, does not overwrite the low one: the two addresses differ, also where the second wraps. -/
theorem State.readByte_writeWord_low (s : State) (a v : Word) : (s.writeWord a v).readByte a = loByte v := by
  rw [State.readByte_writeWord, if_neg (Word.add_one_ne a).symm, if_pos rfl]

theorem State.readByte_writeWord_high (s : State) (a v : Word) :
    (s.writeWord a v).readByte (a + 1#16) = hiByte v := by
  rw [State.readByte_writeWord, if_pos rfl]

theorem State.readByte_writeWord_of_ne (s : State) (v : Word) {a b : Word} (hlow : b ≠ a) (hhigh : b ≠ a + 1#16) :
    (s.writeWord a v).readByte b = s.readByte b := by
  rw [State.readByte_writeWord, if_neg hhigh, if_neg hlow]

/-- Settles O30, from what a word write leaves at each of its two addresses and at every other one; 0xFFFF + 1 is 0x0000. -/
theorem wordsAreLittleEndian : Obligations.WordsAreLittleEndian := by
  simp only [Obligations.WordsAreLittleEndian, ← word_inc, ← loByte_eq_ofNat, ← hiByte_eq_ofNat]
  refine ⟨State.readWord_toNat, fun s => s.readWord_toNat 0xFFFF#16, fun s a v => ⟨?low, ?high, ?other, ?frame, ?back⟩⟩
  case low => exact s.readByte_writeWord_low a v
  case high => exact s.readByte_writeWord_high a v
  case other => exact fun _ => s.readByte_writeWord_of_ne v
  case frame => exact s.writeWord_frame a v
  case back => exact s.readWord_writeWord a v

/-- Settles O29, from the read after a byte write and its frame. -/
theorem byteReadAfterWrite : Obligations.ByteReadAfterWrite :=
  fun s a b v => ⟨s.readByte_writeByte a b v, s.writeByte_frame a v⟩

end Sys2Proof.Machine
end

section
/-! PROOFS. What `Runs` asks of a form, said once: its encoding is the one its fields give (`30_encoding.md` R62, R65, R67), and
its execution is its meaning, which for a load is a change of the state followed by `Cycles(n)` (`00_scope.md` R11). -/

namespace Sys2Proof.Machine

/-- Every instruction is encoded as the fields of its form say (`30_encoding.md` R62, R65, R67). -/
theorem encode_instr (f : Form) : encode f.instr = f.bytes := by
  cases f with
  | ldRegReg dst src => cases dst <;> cases src <;> rfl
  | ldRegImm r _ | ldRegHl r | ldHlReg r => cases r <;> rfl
  | ldPairImm p _ | incPair p | decPair p | addHl p => cases p <;> rfl
  | push p | pop p => cases p <;> rfl
  | jpIf cc _ | jrIf cc _ | callIf cc _ | retIf cc => cases cc <;> rfl
  | rst t => fin_cases t <;> rfl
  | aluImm op _ => cases op <;> rfl
  | alu op x | rotate op x => cases op <;> rcases x with ⟨_ | _ | _ | _ | _ | _ | _⟩ | _ <;> rfl
  | incByte x | decByte x => rcases x with ⟨_ | _ | _ | _ | _ | _ | _⟩ | _ <;> rfl
  | testBit b x | resetBit b x | setBit b x =>
    fin_cases b <;> rcases x with ⟨_ | _ | _ | _ | _ | _ | _⟩ | _ <;> rfl
  | _ => rfl

/-- A form runs from its own bytes into the state its meaning answers. -/
theorem runs_of_meaning {f : Form} {s t : State} (h : f.meaning s = .next t) : Runs f f.bytes s t :=
  ⟨encode_instr f, (exec_instr f s).trans h⟩

/-- `Cycles(n)` after a change that leaves the counter alone counts from the counter before the change. -/
theorem State.addCycles_of_cycles_eq {s t : State} (hc : t.cycles = s.cycles) (n : Nat) :
    t.addCycles n = { t with cycles := s.cycles + n } := by
  rw [State.addCycles, hc]

/-- A form that changes `s` into `t` and then adds `n` cycles. -/
theorem runs_of_change {f : Form} {s t : State} {n : Nat} (hc : t.cycles = s.cycles)
    (h : f.meaning s = .next (t.addCycles n)) : Runs f f.bytes s { t with cycles := s.cycles + n } :=
  State.addCycles_of_cycles_eq hc n ▸ runs_of_meaning h

end Sys2Proof.Machine
end

section
/-! PROOFS. The stack helpers and the loads and stores of one byte, of a pair and through the stack (`40_loads.md` R76 to R79,
R85 to R89, R94, R95, R99 to R103). -/

namespace Sys2Proof.Machine

/-- Where the high byte of a push lands (`40_loads.md` R102). -/
theorem Word.sub_two_add_one (a : Word) : a - 2#16 + 1#16 = a - 1#16 := by
  bv_omega

theorem Word.sub_two_add_two (a : Word) : a - 2#16 + 2#16 = a := BitVec.sub_add_cancel a 2#16

@[simp] theorem State.hiByte_readWord (s : State) (a : Word) : hiByte (s.readWord a) = s.readByte (a + 1#16) :=
  hiByte_pairWord _ _

@[simp] theorem State.loByte_readWord (s : State) (a : Word) : loByte (s.readWord a) = s.readByte a :=
  loByte_pairWord _ _

theorem State.readByte_push16_low (s : State) (v : Word) : (s.push16 v).readByte (s.sp - 2#16) = loByte v :=
  State.readByte_writeWord_low _ _ _

theorem State.readByte_push16_high (s : State) (v : Word) : (s.push16 v).readByte (s.sp - 1#16) = hiByte v := by
  rw [← Word.sub_two_add_one]
  exact State.readByte_writeWord_high _ _ _

theorem State.readByte_push16_of_ne (s : State) (v : Word) {a : Word} (hlow : a ≠ s.sp - 2#16)
    (hhigh : a ≠ s.sp - 1#16) : (s.push16 v).readByte a = s.readByte a :=
  State.readByte_writeWord_of_ne _ _ hlow (Word.sub_two_add_one s.sp ▸ hhigh)

/-- `Push16` changes SP and memory only. -/
theorem State.push16_frame (s : State) (v : Word) : { s.push16 v with sp := s.sp, mem := s.mem } = s := rfl

/-- A pop right after a push gives the word back, with SP as it was before the push (`40_loads.md` R103). -/
theorem State.pop16_push16 (s : State) (v : Word) : (s.push16 v).pop16 = (v, { s.push16 v with sp := s.sp }) := by
  rw [State.pop16, State.readWord_push16, State.push16_sp, Word.sub_two_add_two]

/-- Settles O31, from what a push leaves at each of its two addresses and at every other one. -/
theorem pushAndPopHelpers : Obligations.PushAndPopHelpers := by
  simp only [Obligations.PushAndPopHelpers, ← loByte_eq_ofNat, ← hiByte_eq_ofNat]
  refine fun s v => ⟨rfl, ?low, ?high, ?other, ?frame, rfl, ?back⟩
  case low => exact s.readByte_push16_low v
  case high => exact s.readByte_push16_high v
  case other => exact fun _ => s.readByte_push16_of_ne v
  case frame => exact s.push16_frame v
  case back => exact s.pop16_push16 v

/-- Settles O34: a register or a byte of memory is written, and the cycles are added. -/
theorem registerLoads : Obligations.RegisterLoads := fun s dst src n =>
  ⟨runs_of_change (s.setReg8_cycles dst (s.reg8 src)) rfl, runs_of_change (s.setReg8_cycles dst n) rfl,
    runs_of_change (s.setReg8_cycles dst (s.readByte s.hl)) rfl,
    runs_of_change (s.writeByte_cycles s.hl (s.reg8 src)) rfl⟩

/-- Settles O37: the access is at the HL that `hli` and `hld` return, and A and memory are no part of HL. -/
theorem steppingLoads : Obligations.SteppingLoads := by
  simp only [Obligations.SteppingLoads, ← word_inc, ← word_dec]
  refine fun s => ⟨?storeInc, ?storeDec, ?loadInc, ?loadDec⟩
  case storeInc => exact runs_of_change (t := (s.writeByte s.hl s.a).setHl (s.hl + 1#16)) rfl rfl
  case storeDec => exact runs_of_change (t := (s.writeByte s.hl s.a).setHl (s.hl - 1#16)) rfl rfl
  case loadInc => exact runs_of_change (t := (s.setHl (s.hl + 1#16)).setReg8 .a (s.readByte s.hl)) rfl rfl
  case loadDec => exact runs_of_change (t := (s.setHl (s.hl - 1#16)).setReg8 .a (s.readByte s.hl)) rfl rfl

/-- Settles O36: A, a byte of memory or a pair is written, and the cycles are added. -/
theorem absoluteAndPairLoads : Obligations.AbsoluteAndPairLoads := fun s p nn =>
  ⟨runs_of_change (s.setReg8_cycles .a (s.readByte nn)) rfl, runs_of_change (s.writeByte_cycles nn s.a) rfl,
    runs_of_change (s.setReg16_cycles p nn) rfl⟩

/-- The flags of a word written to AF are bits 7 to 4 of its low byte: the mask of `set_af` keeps them (`10_state.md` R18). -/
theorem State.flag_setAf (s : State) (v : Word) (x : Flag) : (s.setAf v).flag x = (loByte v).getLsbD x.bit := by
  cases x <;> simp [State.flag, Flag.bit]

/-- A write of a pair and a write of SP may be exchanged: SP is no part of a pair `r16stk` (`30_encoding.md` R59). -/
theorem State.setStackPair_set_sp (s : State) (p : StackPair) (v w : Word) :
    ({ s with sp := w }).setStackPair p v = { s.setStackPair p v with sp := w } := by
  cases p <;> rfl

/-- POP of any pair: the word at SP is written to the pair, AF through `set_af` (`40_loads.md` R100, R101). -/
theorem runs_pop (s : State) (p : StackPair) : Runs (.pop p) [opcodeQ 3 p.code 0 1] s
    { s.setStackPair p (s.readWord s.sp) with sp := s.sp + 2#16, cycles := s.cycles + 12 } :=
  runs_of_change (t := { s.setStackPair p (s.readWord s.sp) with sp := s.sp + 2#16 }) (s.setStackPair_cycles p _)
    (State.setStackPair_set_sp s p _ _ ▸ rfl)

/-- Settles O40: POP AF is the POP of a pair (`runs_pop`) written with `set_af`. -/
theorem pushAndPop : Obligations.PushAndPop := by
  intro s p
  refine ⟨runs_of_change (s.push16_cycles _) rfl, fun _ => runs_pop s p, _, runs_pop s .af, ?whole, ?mask, ?flags⟩
  case whole => simp [State.setStackPair]
  case mask => simp [State.setStackPair]
  case flags =>
    have hflag (x : Flag) : (s.setAf (s.readWord s.sp)).flag x = (s.readByte s.sp).getLsbD x.bit := by
      rw [State.flag_setAf, State.loByte_readWord]
    exact ⟨hflag .z, hflag .n, hflag .h, hflag .c⟩

end Sys2Proof.Machine
end

section
/-! PROOFS. `sp_add` (`41_alu.md` R120): the signed offset enters the sum, the unsigned offset byte the flags. -/

namespace Sys2Proof.Machine

/-- The sum of `sp_add` in exact arithmetic: SP plus the signed offset, modulo 65 536 (`41_alu.md` R120). -/
theorem spAdd_value_toNat (sp : Word) (e : Byte) :
    ((spAdd sp e).value.toNat : Int) = ((sp.toNat : Int) + e.toInt) % 65536 := by
  rw [spAdd, add_signExtend, BitVec.toNat_ofInt]
  exact Int.toNat_of_nonneg (Int.emod_nonneg _ (by decide))

/-- Settles O32: the sum is the word addition of the sign-extended byte, and a byte is its own low byte in the carry. -/
theorem spAddSumAndFlags : Obligations.SpAddSumAndFlags := by
  refine fun sp e => ⟨spAdd_value_toNat sp e, rfl, ?carry⟩
  case carry => rw [spAdd, Nat.mod_eq_of_lt e.isLt]

end Sys2Proof.Machine
end

section
/-! PROOFS. The conditions and the control transfers (`42_control.md` R125 to R127, R129 to R132, R134, R137): a transfer
writes PC, a call also SP and memory, a return also SP, and then adds its cycles; a conditional one not taken adds its cycles
only. -/

namespace Sys2Proof.Machine

/-- Settles O33: a condition is the flag it names or its negation, and a flag is a bit of F (`10_state.md` R19). -/
theorem conditionsTestZOrC : Obligations.ConditionsTestZOrC := by
  refine fun s => ⟨?nz, Iff.rfl, ?nc, Iff.rfl, ?onlyF⟩
  case nz => exact iff_of_eq (Bool.not_eq_true' (s.flag .z))
  case nc => exact iff_of_eq (Bool.not_eq_true' (s.flag .c))
  case onlyF => exact fun _ cc hf => State.cond_congr hf cc

/-- A conditional form: taken, it changes `s` into `t` and adds `m` cycles; not taken, it adds `n` cycles to `s` and does
nothing else (`70_reset_and_hazards.md` R203). -/
theorem runs_of_branch {f : Form} {s t : State} {taken : Bool} {m n : Nat} (hc : t.cycles = s.cycles)
    (h : f.meaning s = .next (if taken then t.addCycles m else s.addCycles n)) :
    Runs f f.bytes s (if taken then { t with cycles := s.cycles + m } else { s with cycles := s.cycles + n }) := by
  cases taken with
  | true => exact runs_of_change hc h
  | false => exact runs_of_change rfl h

/-- Settles O46: JP and JR write PC only; the sum of JR is the signed one modulo 65 536 (`add_signExtend`). -/
theorem jumps : Obligations.Jumps := by
  simp only [Obligations.Jumps, ← add_signExtend]
  refine fun s cc nn e => ⟨?jp, ?jpIf, ?jr, ?jrIf⟩
  case jp => exact runs_of_change (s.jump_cycles nn) rfl
  case jpIf => exact runs_of_branch (s.jump_cycles nn) rfl
  case jr => exact runs_of_change (s.jumpBy_cycles e) rfl
  case jrIf => exact runs_of_branch (s.jumpBy_cycles e) rfl

/-- Settles O47: CALL and RST push PC, which the fetch has left after the operands, and jump; RET cc jumps to the word at SP. -/
theorem callsAndReturns : Obligations.CallsAndReturns := by
  refine fun s cc nn t => ⟨?call, ?callIf, ?retIf, ?rst⟩
  case call => exact runs_of_change (s.callTo_cycles nn) rfl
  case callIf => exact runs_of_branch (s.callTo_cycles nn) rfl
  case retIf => exact runs_of_branch s.popPc_cycles rfl
  case rst => exact runs_of_change (s.callTo_cycles (BitVec.ofNat 16 (t.val * 8))) rfl

end Sys2Proof.Machine
end

section
/-! PROOFS. The 0xCB table but its rotates and shifts (`44_cb_prefix.md` R161 to R164): SWAP is `rotate` with the nibbles
exchanged, BIT writes F only, SET and RES write the operand with one bit changed by a mask. -/

namespace Sys2Proof.Machine

/-- The nibbles exchanged, in exact arithmetic (`44_cb_prefix.md` R161). -/
theorem swapNibbles_value (v : Byte) :
    (swapNibbles v).value = BitVec.ofNat 8 (v.toNat % 16 * 16 + v.toNat / 16) := by
  revert v; decide

/-- SWAP's Z is that of its operand: a byte and its exchange are zero together (`44_cb_prefix.md` R161). -/
theorem swapNibbles_value_beq_zero (v : Byte) : ((swapNibbles v).value == 0#8) = decide (v.toNat = 0) := by
  have := v.isLt
  rw [beq_zero, swapNibbles_value, BitVec.toNat_ofNat, Nat.mod_eq_of_lt (by omega), decide_eq_decide]
  omega

/-- Settles O50: SWAP is the read-modify-write of the 0xCB table (`rotate_spec`) with the nibbles exchanged and no carry. -/
theorem swapExchangesNibbles : Obligations.SwapExchangesNibbles := by
  intro s x v
  obtain ⟨t, hrun, hflag, hframe⟩ := rotate_spec .swap x s
  refine ⟨t, runs_of_meaning hrun, ⟨?z, hflag .n, hflag .h, hflag .c⟩, ?frame⟩
  case z => exact (hflag .z).trans (swapNibbles_value_beq_zero (s.read8 x))
  case frame => rw [hframe, RotateOp.result, swapNibbles_value]

/-- BIT's next state: Z, N and H written, C as it was, and nothing else but the cycles (`44_cb_prefix.md` R162). -/
theorem testBit_spec (b : Fin 8) (x : Operand8) (s : State) :
    ∃ t, testBit b x s = .next t ∧ t.HasFlags (!(s.read8 x).getLsbD b) false true (s.flag .c) ∧
      { t with f := s.f } = { s with cycles := s.cycles + x.cost 8 12 } := by
  refine ⟨_, rfl, ?flags, ?frame⟩
  case flags => simp [State.HasFlags]
  case frame => simp

/-- The mask `1 << b` has bit `b` alone. -/
theorem bitMask_getLsbD (b k : Fin 8) : (1#8 <<< b.val).getLsbD k = decide (k = b) := by
  rw [← BitVec.twoPow_eq, BitVec.getLsbD_twoPow]
  simp [b.isLt, Fin.ext_iff, eq_comm]

/-- SET's byte: bit `b` set, every other bit as it was (`44_cb_prefix.md` R163). -/
theorem or_bitMask_getLsbD (v : Byte) (b k : Fin 8) :
    (v ||| (1#8 <<< b.val)).getLsbD k = (decide (k = b) || v.getLsbD k) := by
  rw [BitVec.getLsbD_or, bitMask_getLsbD, Bool.or_comm]

/-- RES's byte: bit `b` cleared, every other bit as it was (`44_cb_prefix.md` R164). -/
theorem and_not_bitMask_getLsbD (v : Byte) (b k : Fin 8) :
    (v &&& ~~~(1#8 <<< b.val)).getLsbD k = (!decide (k = b) && v.getLsbD k) := by
  rw [BitVec.getLsbD_and, BitVec.getLsbD_not, bitMask_getLsbD, decide_eq_true k.isLt, Bool.true_and, Bool.and_comm]

/-- Settles O51: BIT changes F only (`testBit_spec`); the bytes SET and RES write are fixed bit by bit by the mask, and the
write leaves F as it was. -/
theorem bitTestSetAndReset : Obligations.BitTestSetAndReset := by
  intro s b x v
  refine ⟨?bit, ⟨_, or_bitMask_getLsbD v b, ?set⟩, ⟨_, and_not_bitMask_getLsbD v b, ?res⟩⟩
  case bit =>
    obtain ⟨t, hrun, hflags, hframe⟩ := testBit_spec b x s
    exact ⟨t, runs_of_meaning hrun, hflags, hframe⟩
  case set => exact runs_of_change (s.write8_cycles x _) rfl
  case res => exact runs_of_change (s.write8_cycles x _) rfl

end Sys2Proof.Machine
end

section
/-! PROOFS. The decoder and the encoder against each other (`30_encoding.md` R56 to R74): what each format of the primary
table decodes to, that a form decodes from its bytes, and that what is decoded re-encodes to the bytes consumed. -/

namespace Sys2Proof.Machine

/-! One lemma per format (`30_encoding.md` R61, R66, R70): an instruction is taken off the front of the list. -/

theorem decode_plain {b : Byte} {i : Instr} (h : primaryEntry b = .plain i) (rest : List Byte) :
    decode (b :: rest) = .ok (i, rest) :=
  decode_of_window (n := 1) (by rw [decodeWindow, h]) (by omega)

theorem decode_imm8 {b : Byte} {make : Byte → Instr} (h : primaryEntry b = .imm8 make) (n : Byte) (rest : List Byte) :
    decode (b :: n :: rest) = .ok (make n, rest) :=
  decode_of_window (n := 2) (by rw [decodeWindow, h]; rfl) (by simp)

theorem decode_imm16 {b : Byte} {make : Word → Instr} (h : primaryEntry b = .imm16 make) (nn : Word) (rest : List Byte) :
    decode (b :: loByte nn :: hiByte nn :: rest) = .ok (make nn, rest) :=
  decode_of_window (n := 3) (by rw [decodeWindow, h]; simp) (by simp)

theorem decode_cb {b : Byte} {i : Instr} (h : cbInstr b = i) (rest : List Byte) :
    decode (0xCB#8 :: b :: rest) = .ok (i, rest) :=
  h ▸ decode_of_window (n := 2) rfl (by simp)

theorem decode_noInstr {b : Byte} (h : primaryEntry b = .noInstr) (rest : List Byte) :
    decode (b :: rest) = .ok (.unimplemented b, rest) :=
  decode_of_window (n := 1) (by rw [decodeWindow, h]) (by omega)

/-- The eleven bytes have no instruction in the table (`30_encoding.md` R66). -/
theorem primaryEntry_of_unimplemented : ∀ b ∈ unimplementedOpcodes, primaryEntry b = .noInstr := by
  simp [unimplementedOpcodes, primaryEntry, primaryTable, primaryRowD, primaryRowE, primaryRowF]

theorem Instr.wellFormed_unimplemented_iff (b : Byte) :
    (Instr.unimplemented b).WellFormed ↔ b ∈ unimplementedOpcodes := by
  simp [Instr.WellFormed, Instr.wellFormed]

/-- Every form decodes from its bytes: its opcode byte selects, in the table of its format, its own entry. -/
theorem decode_bytes (f : Form) (hf : f.instr.WellFormed) (rest : List Byte) :
    decode (f.bytes ++ rest) = .ok (f.instr, rest) := by
  cases f with
  | ldAAbs nn | ldAbsA nn | ldAbsSp nn | jp nn | call nn => exact decode_imm16 rfl nn rest
  | ldPairImm p nn => cases p <;> exact decode_imm16 rfl nn rest
  | jpIf cc nn | callIf cc nn => cases cc <;> exact decode_imm16 rfl nn rest
  | ldRegImm dst n => cases dst <;> exact decode_imm8 rfl n rest
  | aluImm op n => cases op <;> exact decode_imm8 rfl n rest
  | jrIf cc e => cases cc <;> exact decode_imm8 rfl e rest
  | ldHlImm n | ldHighA n | ldAHigh n | ldHlSpOffset n | addSp n | jr n => exact decode_imm8 rfl n rest
  | rotate op x => cases op <;> rcases x with ⟨_ | _ | _ | _ | _ | _ | _⟩ | _ <;> exact decode_cb rfl rest
  | testBit b x | resetBit b x | setBit b x =>
    fin_cases b <;> rcases x with ⟨_ | _ | _ | _ | _ | _ | _⟩ | _ <;> exact decode_cb rfl rest
  | unimplemented op =>
    exact decode_noInstr (primaryEntry_of_unimplemented op ((Instr.wellFormed_unimplemented_iff op).1 hf)) rest
  | ldRegReg dst src => cases dst <;> cases src <;> exact decode_plain rfl rest
  | ldRegHl r | ldHlReg r => cases r <;> exact decode_plain rfl rest
  | incPair p | decPair p | addHl p | push p | pop p => cases p <;> exact decode_plain rfl rest
  | alu op x => cases op <;> rcases x with ⟨_ | _ | _ | _ | _ | _ | _⟩ | _ <;> exact decode_plain rfl rest
  | incByte x | decByte x => rcases x with ⟨_ | _ | _ | _ | _ | _ | _⟩ | _ <;> exact decode_plain rfl rest
  | retIf cc => cases cc <;> exact decode_plain rfl rest
  | rst t => fin_cases t <;> exact decode_plain rfl rest
  | _ => exact decode_plain rfl rest

/-- The constructor of a constructor's form is that constructor. -/
theorem instr_formOf (i : Instr) : (formOf i).instr = i := by
  cases i <;> rfl

/-- The form of a form's constructor is that form: no two forms share a constructor. -/
theorem formOf_instr (f : Form) : formOf f.instr = f := by
  cases f with
  | ldRegReg dst src => cases dst <;> cases src <;> rfl
  | ldRegImm r _ | ldRegHl r | ldHlReg r => cases r <;> rfl
  | ldPairImm p _ | incPair p | decPair p | addHl p | push p | pop p => cases p <;> rfl
  | jpIf cc _ | jrIf cc _ | callIf cc _ | retIf cc => cases cc <;> rfl
  | rst t => fin_cases t <;> rfl
  | aluImm op _ => cases op <;> rfl
  | alu op x | rotate op x => cases op <;> rcases x with ⟨_ | _ | _ | _ | _ | _ | _⟩ | _ <;> rfl
  | incByte x | decByte x => rcases x with ⟨_ | _ | _ | _ | _ | _ | _⟩ | _ <;> rfl
  | testBit b x | resetBit b x | setBit b x =>
    fin_cases b <;> rcases x with ⟨_ | _ | _ | _ | _ | _ | _⟩ | _ <;> rfl
  | _ => rfl

/-- An instruction is encoded as the bytes of its form. -/
theorem encode_eq_bytes (i : Instr) : encode i = (formOf i).bytes := by
  rw [← encode_instr, instr_formOf]

/-- Settles O4. -/
theorem formsAreTheInstructions : Obligations.FormsAreTheInstructions :=
  ⟨instr_formOf, formOf_instr⟩

/-- Settles O3. -/
theorem encodingFollowsFields : Obligations.EncodingFollowsFields :=
  encode_instr

/-- Settles O1: an instruction is encoded as the bytes of its form, and a form decodes from its bytes. -/
theorem decodeInvertsEncode : Obligations.DecodeInvertsEncode := by
  intro i rest hi
  rw [encode_eq_bytes, decode_bytes _ ((instr_formOf i).symm ▸ hi), instr_formOf]

/-- What a window of three bytes decodes to is well formed, and is encoded by the bytes of the window it takes. -/
theorem encode_decodeWindow (b0 b1 b2 : Byte) :
    (decodeWindow b0 b1 b2).1.WellFormed ∧
      encode (decodeWindow b0 b1 b2).1 = [b0, b1, b2].take (decodeWindow b0 b1 b2).2 := by
  have h := encode_primaryEntry b0
  unfold decodeWindow
  split <;> rename_i heq <;> rw [heq] at h
  case h_1 => exact ⟨h.2, h.1⟩
  case h_2 => exact ⟨(h b1).2, (h b1).1⟩
  case h_3 =>
    obtain ⟨henc, hwf⟩ := h (pairWord b2 b1)
    exact ⟨hwf, by rw [henc, loByte_pairWord, hiByte_pairWord]; rfl⟩
  case h_4 =>
    subst h
    exact ⟨(encode_cbInstr b1).2, (encode_cbInstr b1).1⟩
  case h_5 => exact ⟨h, rfl⟩

/-- The first bytes of a list are the first bytes of its window, as far as the list reaches. -/
theorem take_window (b0 : Byte) (rest : List Byte) {n : Nat} (h3 : n ≤ 3) (hn : n ≤ rest.length + 1) :
    [b0, rest.getD 0 0#8, rest.getD 1 0#8].take n = (b0 :: rest).take n := by
  match rest, n with
  | _, 0 => rfl
  | _, 1 => rfl
  | b1 :: _, 2 => rfl
  | b1 :: b2 :: _, 3 => rfl

/-- A list that decodes is taken apart by its window: the instruction, and what is left over after its bytes. -/
theorem decode_cons_eq_ok {b0 : Byte} {rest tail : List Byte} {i : Instr} (h : decode (b0 :: rest) = .ok (i, tail)) :
    let w := decodeWindow b0 (rest.getD 0 0#8) (rest.getD 1 0#8)
    w.1 = i ∧ w.2 ≤ rest.length + 1 ∧ (b0 :: rest).drop w.2 = tail := by
  simp only [decode, List.length_cons] at h
  split at h
  case isTrue hn =>
    injection h with h
    exact ⟨congrArg Prod.fst h, hn, congrArg Prod.snd h⟩
  case isFalse => cases h

/-- Settles O2: the bytes a decoding consumes are those of its window, and the window's instruction is encoded by them. -/
theorem encodeInvertsDecode : Obligations.EncodeInvertsDecode := by
  intro bytes i tail h
  cases bytes with
  | nil => cases h
  | cons b0 rest =>
    obtain ⟨rfl, hn, rfl⟩ := decode_cons_eq_ok h
    obtain ⟨hwf, henc⟩ := encode_decodeWindow b0 (rest.getD 0 0#8) (rest.getD 1 0#8)
    refine ⟨hwf, ?_⟩
    rw [henc, take_window b0 rest (decodeWindow_length _ _ _).2 hn, List.take_append_drop]

/-- Settles O6: the window of three bytes is within the list; what decodes to UNIMPLEMENTED is well formed (O2), and one of the
eleven bytes is the encoding of UNIMPLEMENTED (O1). -/
theorem everyByteDecodes : Obligations.EveryByteDecodes := by
  intro b0 b1 b2 rest
  have hlen : (decodeWindow b0 b1 b2).2 ≤ rest.length + 3 :=
    (decodeWindow_length b0 b1 b2).2.trans (Nat.le_add_left 3 _)
  have hdec := decode_of_window (b0 := b0) (rest := b1 :: b2 :: rest) (i := (decodeWindow b0 b1 b2).1) rfl hlen
  refine ⟨_, _, hdec, fun hi => ?isEleven, fun hmem => ?ofEleven⟩
  case isEleven =>
    rw [← Instr.wellFormed_unimplemented_iff, ← hi]
    exact (encodeInvertsDecode _ _ _ hdec).1
  case ofEleven =>
    have hun := decodeInvertsEncode (.unimplemented b0) (b1 :: b2 :: rest) ((Instr.wellFormed_unimplemented_iff b0).2 hmem)
    injection hdec.symm.trans hun with h
    exact congrArg Prod.fst h

/-- Settles O5. -/
theorem sourceEncodingsDecode : Obligations.SourceEncodingsDecode :=
  ⟨decode_imm8 rfl _ _, decode_imm8 rfl _ _, decode_plain rfl _, decode_imm8 rfl _ _, decode_plain rfl _,
    decode_plain rfl _, decode_imm8 rfl _ _, decode_plain rfl _, decode_imm16 rfl 0xC000#16 _, decode_plain rfl _,
    decode_plain rfl _, decode_cb rfl _, decode_cb rfl _⟩

end Sys2Proof.Machine
end

section
/-! PROOFS. The step (`60_exceptions.md` R168 to R174, R180; `30_encoding.md` R56): when it answers a next state, what it does
while HALT is set, and which instruction it runs from the bytes at PC. -/

namespace Sys2Proof.Machine

/-- Settles O13. -/
theorem haltedStepOnlyCounts : Obligations.HaltedStepOnlyCounts :=
  fun _ => step_of_halt

/-- Settles O14. -/
theorem faultedStateTakesNoStep : Obligations.FaultedStateTakesNoStep :=
  fun _ _ => step_of_fault

/-- With the fault mark clear a step is a halted cycle or an execution, and neither stops. -/
theorem step_next_of_no_fault {s : State} (hf : s.fault = none) : ∃ t, step s = .next t := by
  cases hh : s.halt with
  | true => exact ⟨_, step_of_halt hf hh⟩
  | false =>
    rw [step_of_running hf hh]
    exact exec_next _ _

/-- Settles O15. -/
theorem stepStopsOnlyAtFaultMark : Obligations.StepStopsOnlyAtFaultMark :=
  fun _ => ⟨fun ⟨_, h⟩ => (step_cases h).1, step_next_of_no_fault⟩

/-- Settles O20, by induction on the number of steps: a halted cycle leaves the core halted and without fault. -/
theorem haltedCoreIsQuiescent : Obligations.HaltedCoreIsQuiescent := by
  intro n
  induction n with
  | zero => exact fun _ _ _ => rfl
  | succ n ih =>
    intro s hf hh
    rw [run_succ (step_of_halt hf hh), ih (s.addCycles 4) hf hh]
    simp only [State.addCycles, Nat.mul_succ, Nat.add_comm (4 * n), Nat.add_assoc]

/-- An encoding is at most three bytes long (`30_encoding.md` R61). -/
theorem encode_length_le (i : Instr) : (encode i).length ≤ 3 := by
  rw [encode_eq_bytes]
  cases formOf i <;> simp [Form.bytes]

/-- Three bytes that begin with the encoding of an instruction are a window of it and its length: they are the encoding and
some bytes after it, which decode to the instruction (O1). -/
theorem decodeWindow_of_encode {i : Instr} (hi : i.WellFormed) {b0 b1 b2 : Byte} {tail : List Byte}
    (h : [b0, b1, b2] = encode i ++ tail) : decodeWindow b0 b1 b2 = (i, (encode i).length) := by
  have hdec := decodeInvertsEncode i tail hi
  rw [← h] at hdec
  obtain ⟨hfst, hn, hdrop⟩ := decode_cons_eq_ok hdec
  have hlen := congrArg List.length hdrop
  have hsum := congrArg List.length h
  simp only [List.length_drop, List.length_append, List.length_cons, List.length_nil, List.getD_cons_zero,
    List.getD_cons_succ] at hn hlen hsum
  exact Prod.ext hfst (by omega)

/-- The bytes of memory from an address on, modulo 65 536. -/
def State.bytesFrom (s : State) (a : Word) (n : Nat) : List Byte :=
  (List.range n).map fun k => s.readByte (a + BitVec.ofNat 16 k)

/-- Bytes that stand in memory from an address on are the first of the bytes from it. -/
theorem State.bytesFrom_eq_append {s : State} {a : Word} {bytes : List Byte} {n : Nat} (hn : bytes.length ≤ n)
    (h : ∀ k (_ : k < bytes.length), s.readByte (a + BitVec.ofNat 16 k) = bytes[k]) :
    s.bytesFrom a n = bytes ++ (s.bytesFrom a n).drop bytes.length := by
  have htake : (s.bytesFrom a n).take bytes.length = bytes := by
    apply List.ext_getElem
    · simpa [State.bytesFrom] using hn
    · intro k _ hk
      simpa [State.bytesFrom] using h k hk
  exact (htake ▸ List.take_append_drop bytes.length (s.bytesFrom a n)).symm

/-- The fetch decodes the three bytes from PC on. -/
theorem State.fetched_of_encode {s : State} {i : Instr} (hi : i.WellFormed)
    (h : ∀ k (_ : k < (encode i).length), s.readByte (s.pc + BitVec.ofNat 16 k) = (encode i)[k]) :
    s.fetched = (i, (encode i).length) := by
  have hbytes := State.bytesFrom_eq_append (encode_length_le i) h
  have hwindow : s.bytesFrom s.pc 3 = [s.readByte s.pc, s.readByte (s.pc + 1#16), s.readByte (s.pc + 2#16)] := by
    simp [State.bytesFrom, List.range_succ]
  exact decodeWindow_of_encode hi (hwindow ▸ hbytes)

/-- Settles O12. -/
theorem stepRunsDecodedInstruction : Obligations.StepRunsDecodedInstruction := by
  intro s i hf hh hi hbytes
  rw [step_of_running hf hh, State.fetched_of_encode hi hbytes, State.advance]

end Sys2Proof.Machine
end

section
/-! PROOFS. Memory along an execution (`20_memory.md` R38 to R49): a canonical memory is fixed by what it reads, and every
instruction changes memory by byte writes at the addresses it stores to, so it leaves every other byte and keeps the canonical
form. -/

namespace Sys2Proof.Machine

/-- A cell of a list with rising addresses is what its address reads. -/
theorem Memory.lookup_of_mem {m : Memory} (h : m.Pairwise (fun x y => x.1 < y.1)) {cell : Host.Cell} (hc : cell ∈ m) :
    Memory.lookup cell.1 m = cell.2 := by
  induction m with
  | nil => cases hc
  | cons c rest ih =>
    rw [List.pairwise_cons] at h
    obtain ⟨hlt, hrest⟩ := h
    rcases List.mem_cons.1 hc with rfl | hc
    · simp [lookup]
    · rw [lookup, if_neg (Nat.ne_of_lt (hlt cell hc)), ih hrest hc]

/-- An address that reads as something but its init value is listed. -/
theorem Memory.mem_of_lookup_ne {m : Memory} {k : Nat} (h : Memory.lookup k m ≠ Memory.initial k) :
    (k, Memory.lookup k m) ∈ m := by
  induction m with
  | nil => exact absurd rfl h
  | cons c rest ih =>
    by_cases hk : c.1 = k
    · subst hk
      simp [lookup]
    · rw [lookup, if_neg hk] at h ⊢
      exact List.mem_cons_of_mem _ (ih h)

/-- A memory lists every cell of a canonical one that reads the same. -/
theorem Memory.subset_of_read {m n : Memory} (hm : m.wf) (h : ∀ a : Word, m.read a = n.read a) : m ⊆ n := by
  intro cell hc
  obtain ⟨hbound, hinitial⟩ := hm.2 cell hc
  have hn : Memory.lookup cell.1 n = cell.2 := by
    have := h (BitVec.ofNat 16 cell.1)
    rw [read, read, BitVec.toNat_ofNat, Nat.mod_eq_of_lt hbound] at this
    rw [← this, lookup_of_mem hm.1 hc]
  have hmem := mem_of_lookup_ne (m := n) (k := cell.1) (hn ▸ hinitial)
  rwa [hn] at hmem

/-- Settles O11: each memory lists the cells of the other, and a list with strictly rising addresses is fixed by its cells. -/
theorem canonicalMemoryIsUnique : Obligations.CanonicalMemoryIsUnique := by
  intro m n hm hn h
  have : Std.Irrefl fun x y : Host.Cell => x.1 < y.1 := ⟨fun _ => Nat.lt_irrefl _⟩
  have : Std.Antisymm fun x y : Host.Cell => x.1 < y.1 := ⟨fun _ _ hxy hyx => absurd hyx (Nat.lt_asymm hxy)⟩
  exact List.Subset.antisymm_of_pairwise hm.1 hn.1 (Memory.subset_of_read hm h)
    (Memory.subset_of_read hn fun a => (h a).symm)

/-- The second memory is the first after some byte writes, each at one of the given addresses. -/
inductive Memory.WritesAt (slots : List Word) (m : Memory) : Memory → Prop
  | refl : WritesAt slots m m
  | write {n : Memory} (h : WritesAt slots m n) {a : Word} (ha : a ∈ slots) (v : Byte) : WritesAt slots m (n.write a v)

theorem Memory.WritesAt.wf {slots : List Word} {m n : Memory} (h : WritesAt slots m n) (hm : m.wf) : n.wf := by
  induction h with
  | refl => exact hm
  | write _ _ v ih => exact wf_write ih _ v

theorem Memory.WritesAt.read_of_notMem {slots : List Word} {m n : Memory} (h : WritesAt slots m n) {b : Word}
    (hb : b ∉ slots) : n.read b = m.read b := by
  induction h with
  | refl => rfl
  | write _ ha v ih => rw [read_write, if_neg (ne_of_mem_of_not_mem ha hb).symm, ih]

theorem Memory.writesAt_byte (m : Memory) (a : Word) (v : Byte) : WritesAt [a] m (m.write a v) :=
  .write .refl (List.mem_singleton.2 rfl) v

/-- `write_word` writes its two bytes (`20_memory.md` R46). -/
theorem Memory.writesAt_word (m : Memory) (a : Word) (lo hi : Byte) :
    WritesAt (wordSlots a) m ((m.write a lo).write (a + 1#16) hi) :=
  .write (.write .refl (by simp [wordSlots]) lo) (by simp [wordSlots]) hi

/-- A write of an operand `r8` stores to memory if it is (HL) (`00_scope.md` R9). -/
theorem State.write8_writesAt (s : State) (x : Operand8) (v : Byte) :
    Memory.WritesAt (x.stored s) s.mem (s.write8 x v).mem := by
  cases x with
  | reg r => exact s.setReg8_mem r v ▸ .refl
  | atHl => exact s.mem.writesAt_byte s.hl v

/-- An A-ALU operation changes A, F and the cycle counter only (`41_alu.md` R105). -/
theorem alu_frame {op : AluOp} {src : AluSource} {s t : State} (h : alu op src s = .next t) :
    { t with a := s.a, f := s.f } = { s with cycles := s.cycles + src.cost } := by
  obtain ⟨u, hu, -, -, hframe⟩ := alu_spec op src s
  cases h.symm.trans hu
  exact hframe

/-- Every instruction changes memory by byte writes at the addresses it stores to, and not otherwise (`20_memory.md` R44, R46,
R49). -/
theorem meaning_writesAt {f : Form} {s t : State} (h : f.meaning s = .next t) :
    Memory.WritesAt (f.stored s) s.mem t.mem := by
  cases f with
  | alu op x | aluImm op n =>
    have hmem : t.mem = s.mem := (congrArg State.mem (alu_frame h) :)
    exact hmem ▸ .refl
  | incByte x | decByte x | rotate op x | resetBit b x | setBit b x =>
    cases h; simpa [Form.stored] using s.write8_writesAt x _
  | ldHlReg | ldHlImm | ldBcA | ldDeA | ldHlIncA | ldHlDecA | ldHighA | ldHighCA | ldAbsA =>
    cases h; exact s.mem.writesAt_byte _ _
  | ldAbsSp | push | call | rst => cases h; exact s.mem.writesAt_word _ _ _
  | callIf cc nn =>
    cases h
    cases hcc : s.cond cc with
    | true => simpa [Form.stored, hcc] using s.mem.writesAt_word _ _ _
    | false => simpa [Form.stored, hcc] using .refl
  | jpIf cc nn | jrIf cc e | retIf cc => cases h; split <;> exact .refl
  | _ => cases h; simpa using .refl

/-- Settles O24. -/
theorem frameMemory : Obligations.FrameMemory := by
  intro f s t h a ha
  rw [exec_instr] at h
  exact (meaning_writesAt h).read_of_notMem ha

/-- Settles O10: a halted cycle and the fetch do not touch memory, an execution changes it by byte writes, and a byte write
keeps the canonical form. -/
theorem stepKeepsMemoryCanonical : Obligations.StepKeepsMemoryCanonical := by
  intro s t hs h
  obtain ⟨-, ⟨-, rfl⟩ | ⟨-, hexec⟩⟩ := step_cases h
  · exact hs
  · rw [exec_eq_meaning] at hexec
    exact (meaning_writesAt hexec).wf hs

end Sys2Proof.Machine
end

section
/-! PROOFS. The cycle counter along an execution (`10_state.md` R26; `70_reset_and_hazards.md` R202 to R207): each rule adds
the cycles of its "Cycles" line, and the table of R207 holds these amounts. -/

namespace Sys2Proof.Machine

/-- The amounts of the "Cycles" line of each rule (`40_loads.md` to `44_cb_prefix.md`). -/
def Form.cost : Form → Cost
  | .ldRegReg _ _ | .jpHl | .rlca | .rrca | .rla | .rra | .daa | .cpl | .scf | .ccf | .nop | .stop | .halt | .di
  | .ei => flat 4
  | .ldRegImm _ _ | .ldRegHl _ | .ldHlReg _ | .ldABc | .ldADe | .ldBcA | .ldDeA | .ldHlIncA | .ldHlDecA | .ldAHlInc
  | .ldAHlDec | .ldHighCA | .ldAHighC | .ldSpHl | .aluImm _ _ | .incPair _ | .decPair _ | .addHl _ => flat 8
  | .ldHlImm _ | .ldHighA _ | .ldAHigh _ | .ldPairImm _ _ | .ldHlSpOffset _ | .pop _ | .jr _ => flat 12
  | .ldAAbs _ | .ldAbsA _ | .push _ | .addSp _ | .jp _ | .ret | .reti | .rst _ => flat 16
  | .ldAbsSp _ => flat 20
  | .call _ => flat 24
  | .alu _ x => flat (x.cost 4 8)
  | .incByte x | .decByte x => flat (x.cost 4 12)
  | .testBit _ x => flat (x.cost 8 12)
  | .rotate _ x | .resetBit _ x | .setBit _ x => flat (x.cost 8 16)
  | .jrIf _ _ => branch 12 8
  | .jpIf _ _ => branch 16 12
  | .callIf _ _ => branch 24 12
  | .retIf _ => branch 20 8
  | .unimplemented _ => flat 0

/-- The table of R207, read at the encoding of an instruction, holds the amounts of its rule. -/
theorem tableCost_eq_cost {i : Instr} (hi : ∀ op, i ≠ .unimplemented op) : tableCost i = (formOf i).cost := by
  cases i with
  | unimplemented op => exact absurd rfl (hi op)
  | _ => rfl

/-- A form but UNIMPLEMENTED is a constructor but UNIMPLEMENTED. -/
theorem Form.instr_ne_unimplemented {f : Form} (hf : ∀ op, f ≠ .unimplemented op) (op : Byte) :
    f.instr ≠ .unimplemented op :=
  fun h => hf op ((formOf_instr f).symm.trans (congrArg formOf h))

theorem Form.charge_eq {f : Form} (hf : ∀ op, f ≠ .unimplemented op) (s : State) :
    f.charge s = if f.taken s then f.cost.taken else f.cost.notTaken := by
  rw [charge, tableCost_eq_cost (f.instr_ne_unimplemented hf), formOf_instr]

@[simp] theorem State.hli_snd (s : State) : s.hli.2 = s.setHl (s.hl + 1#16) := rfl

@[simp] theorem State.hld_snd (s : State) : s.hld.2 = s.setHl (s.hl - 1#16) := rfl

/-- Every instruction but UNIMPLEMENTED adds the cycles of its rule, of a conditional one by whether it is taken. -/
theorem meaning_cycles {f : Form} (hf : ∀ op, f ≠ .unimplemented op) {s t : State} (h : f.meaning s = .next t) :
    t.cycles = s.cycles + f.charge s := by
  rw [f.charge_eq hf]
  cases f with
  | unimplemented op => exact absurd rfl (hf op)
  | alu | aluImm => exact (congrArg State.cycles (alu_frame h) :)
  | jpIf cc | jrIf cc | callIf cc | retIf cc =>
    cases h
    cases hcc : s.cond cc <;> simp [Form.taken, Form.cost, branch, hcc]
  | _ => cases h; simp [Form.taken, Form.cost, flat]

/-- Settles O16. -/
theorem everyInstructionCompletesAtTableCost : Obligations.EveryInstructionCompletesAtTableCost := by
  intro f s hf
  rw [exec_instr]
  obtain ⟨t, ht⟩ := meaning_next f s
  exact ⟨t, ht, meaning_cycles hf ht⟩

/-- Record charges a draw, Fatal nothing (`43_misc.md` R151). -/
theorem State.raiseUnimplemented_cycles_ge (s : State) (policy : UnimplPolicy) (op : Byte) :
    s.cycles ≤ (s.raiseUnimplemented policy op).cycles := by
  cases policy with
  | record => exact Nat.le_add_right _ _
  | fatal => exact Nat.le_refl _

theorem meaning_cycles_ge {f : Form} {s t : State} (h : f.meaning s = .next t) : s.cycles ≤ t.cycles := by
  by_cases hf : ∃ op, f = .unimplemented op
  · obtain ⟨op, rfl⟩ := hf
    cases h
    exact s.raiseUnimplemented_cycles_ge _ op
  · rw [meaning_cycles (not_exists.1 hf) h]
    exact Nat.le_add_right _ _

/-- Settles O17: a halted cycle adds 4, the fetch nothing, and no execution takes cycles away. -/
theorem cyclesNeverDecrease : Obligations.CyclesNeverDecrease := by
  intro s t h
  obtain ⟨-, ⟨-, rfl⟩ | ⟨-, hexec⟩⟩ := step_cases h
  · exact Nat.le_add_right _ _
  · rw [exec_eq_meaning] at hexec
    exact meaning_cycles_ge (s := s.advance s.fetched.2) hexec

end Sys2Proof.Machine
end

section
/-! PROOFS. The bookkeeping fields IME, HALT, `unimpl`, the fault mark and the draw counter (`10_state.md` R25 to R29, R35):
which instruction writes them, and that no instruction reads them. -/

namespace Sys2Proof.Machine

/-- An instruction that is not a form's constructor has another form. -/
theorem formOf_ne {i : Instr} {f : Form} (hi : i ≠ f.instr) : formOf i ≠ f :=
  fun hf => hi (hf ▸ (instr_formOf i).symm)

/-- Only DI, EI and RETI write IME (`10_state.md` R25). -/
theorem meaning_ime {f : Form} (hdi : f ≠ .di) (hei : f ≠ .ei) (hreti : f ≠ .reti) {s t : State}
    (h : f.meaning s = .next t) : t.ime = s.ime := by
  cases f with
  | di => exact absurd rfl hdi
  | ei => exact absurd rfl hei
  | reti => exact absurd rfl hreti
  | alu | aluImm => exact (congrArg State.ime (alu_frame h) :)
  | jpIf | jrIf | callIf | retIf => cases h; split <;> simp
  | _ => cases h; simp

/-- Only HALT writes the HALT flag (`10_state.md` R27). -/
theorem meaning_halt {f : Form} (hf : f ≠ .halt) {s t : State} (h : f.meaning s = .next t) : t.halt = s.halt := by
  cases f with
  | halt => exact absurd rfl hf
  | alu | aluImm => exact (congrArg State.halt (alu_frame h) :)
  | jpIf | jrIf | callIf | retIf => cases h; split <;> simp
  | _ => cases h; simp

/-- Only UNIMPLEMENTED writes `unimpl`, the fault mark and the draw counter (`10_state.md` R28, R29). -/
theorem meaning_diagnostics {f : Form} (hf : ∀ op, f ≠ .unimplemented op) {s t : State} (h : f.meaning s = .next t) :
    t.unimpl = s.unimpl ∧ t.fault = s.fault ∧ t.draws = s.draws := by
  cases f with
  | unimplemented op => exact absurd rfl (hf op)
  | alu | aluImm =>
    have hframe := alu_frame h
    exact ⟨(congrArg State.unimpl hframe :), (congrArg State.fault hframe :), (congrArg State.draws hframe :)⟩
  | jpIf | jrIf | callIf | retIf => cases h; split <;> simp
  | _ => cases h; simp

/-! The program view of a state reads as the state, and a write of it is the view of the write. -/

@[simp] theorem State.programView_idem (s : State) : s.programView.programView = s.programView := rfl
@[simp] theorem State.a_programView (s : State) : s.programView.a = s.a := rfl
@[simp] theorem State.hl_programView (s : State) : s.programView.hl = s.hl := rfl
@[simp] theorem State.flag_programView (s : State) (x : Flag) : s.programView.flag x = s.flag x := rfl
@[simp] theorem State.readByte_programView (s : State) (a : Word) : s.programView.readByte a = s.readByte a := rfl
@[simp] theorem State.cond_programView (s : State) (cc : Cond) : s.programView.cond cc = s.cond cc :=
  State.cond_congr rfl cc
@[simp] theorem State.reg8_programView (s : State) (r : Reg8) : s.programView.reg8 r = s.reg8 r := by
  cases r <;> rfl
@[simp] theorem State.reg16_programView (s : State) (p : Reg16) : s.programView.reg16 p = s.reg16 p := by
  cases p <;> rfl
@[simp] theorem State.read8_programView (s : State) (x : Operand8) : s.programView.read8 x = s.read8 x :=
  State.read8_congr s.reg8_programView s.readByte_programView x
@[simp] theorem State.source_programView (s : State) (src : AluSource) : s.programView.source src = s.source src := by
  cases src with
  | operand x => exact s.read8_programView x
  | imm n => rfl

@[simp] theorem State.programView_addCycles (s : State) (n : Nat) : (s.addCycles n).programView = s.programView := rfl
@[simp] theorem State.programView_setFlags (s : State) (z n h c : Bool) :
    (s.setFlags z n h c).programView = s.programView.setFlags z n h c := rfl
@[simp] theorem State.programView_setZnh (s : State) (z n h : Bool) :
    (s.setZnh z n h).programView = s.programView.setZnh z n h := rfl
@[simp] theorem State.programView_setReg8 (s : State) (r : Reg8) (v : Byte) :
    (s.setReg8 r v).programView = s.programView.setReg8 r v := by
  cases r <;> rfl
@[simp] theorem State.programView_setReg16 (s : State) (p : Reg16) (v : Word) :
    (s.setReg16 p v).programView = s.programView.setReg16 p v := by
  cases p <;> rfl
@[simp] theorem State.programView_write8 (s : State) (x : Operand8) (v : Byte) :
    (s.write8 x v).programView = s.programView.write8 x v := by
  cases x with
  | reg r => exact s.programView_setReg8 r v
  | atHl => rfl
@[simp] theorem State.programView_raiseUnimplemented (s : State) (policy : UnimplPolicy) (op : Byte) :
    (s.raiseUnimplemented policy op).programView = s.programView := by
  cases policy <;> rfl

/-- An instruction takes a state and its program view to next states with the same program view. -/
theorem meaning_programView (f : Form) (s : State) :
    ∃ t u, f.meaning s = .next t ∧ f.meaning s.programView = .next u ∧ t.programView = u.programView := by
  cases f with
  | ldRegReg | ldRegImm | ldRegHl | ldPairImm | incPair | decPair | incByte | decByte | rotate | setBit | resetBit
  | unimplemented => exact ⟨_, _, rfl, rfl, by simp⟩
  | pop p => cases p <;> exact ⟨_, _, rfl, rfl, rfl⟩
  | alu op | aluImm op => exact ⟨_, _, rfl, rfl, by cases op.writesA <;> simp⟩
  | jpIf cc | jrIf cc | callIf cc | retIf cc =>
    refine ⟨_, _, rfl, rfl, ?_⟩
    rw [State.cond_programView]
    cases s.cond cc <;> rfl
  | _ => exact ⟨_, _, rfl, rfl, rfl⟩

/-- Settles O21: each of the two next states has the program view that the execution from the common view gives. -/
theorem programCannotObserveBookkeeping : Obligations.ProgramCannotObserveBookkeeping := by
  intro i s₁ s₂ h
  simp only [exec_eq_meaning]
  obtain ⟨t₁, u₁, ht₁, hu₁, hview₁⟩ := meaning_programView (formOf i) s₁
  obtain ⟨t₂, u₂, ht₂, hu₂, hview₂⟩ := meaning_programView (formOf i) s₂
  rw [h, hu₂] at hu₁
  cases hu₁
  exact ⟨t₁, t₂, ht₁, ht₂, hview₁.trans hview₂.symm⟩

/-- Settles O19. -/
theorem haltAndDiagnosticsFrame : Obligations.HaltAndDiagnosticsFrame := by
  refine ⟨fun i s t h hi => ?halt, fun s => ⟨_, rfl, rfl⟩, fun i s t h hi => ?diagnostics, fun s t h hh => ?halted⟩
  case halt =>
    rw [exec_eq_meaning] at h
    exact meaning_halt (formOf_ne hi) h
  case diagnostics =>
    rw [exec_eq_meaning] at h
    exact meaning_diagnostics (fun op => formOf_ne (hi op)) h
  case halted =>
    obtain ⟨-, ⟨-, rfl⟩ | ⟨hrun, -⟩⟩ := step_cases h
    · rfl
    · exact absurd (hh.symm.trans hrun) (by decide)

/-- A state is its program view and its bookkeeping fields. -/
theorem State.eq_of_programView {s t : State} (hview : s.programView = t.programView) (hime : s.ime = t.ime)
    (hhalt : s.halt = t.halt) (hcycles : s.cycles = t.cycles) (hunimpl : s.unimpl = t.unimpl) (hfault : s.fault = t.fault)
    (hdraws : s.draws = t.draws) : s = t := by
  cases s; cases t
  simp_all [State.programView]

/-- The cycles of an instruction depend on F only, through its condition. -/
theorem Form.charge_congr {s t : State} (h : t.f = s.f) (f : Form) : f.charge t = f.charge s := by
  have htaken : f.taken t = f.taken s := by
    cases f with
    | jpIf cc | jrIf cc | callIf cc | retIf cc => exact State.cond_congr h cc
    | _ => rfl
  rw [charge, charge, htaken]

/-- UNIMPLEMENTED does not read IME. -/
theorem State.raiseUnimplemented_set_ime (s : State) (v : Bool) (policy : UnimplPolicy) (op : Byte) :
    { State.raiseUnimplemented { s with ime := v } policy op with ime := s.ime } = s.raiseUnimplemented policy op := by
  cases policy <;> rfl

/-- No instruction reads IME: from the state with IME changed it gives the same program view (O21) and, field by field, the
same bookkeeping but for IME. -/
theorem meaning_set_ime (f : Form) (s : State) (v : Bool) {t : State} (h : f.meaning s = .next t) :
    ∃ t', f.meaning { s with ime := v } = .next t' ∧ { t' with ime := t.ime } = t := by
  by_cases hf : ∃ op, f = .unimplemented op
  · obtain ⟨op, rfl⟩ := hf
    cases h
    refine ⟨_, rfl, ?_⟩
    rw [State.raiseUnimplemented_ime]
    exact s.raiseUnimplemented_set_ime v _ op
  · have hf := not_exists.1 hf
    obtain ⟨hunimpl, hfault, hdraws⟩ := meaning_diagnostics hf h
    obtain ⟨t', h'⟩ := meaning_next f { s with ime := v }
    obtain ⟨hunimpl', hfault', hdraws'⟩ := meaning_diagnostics hf h'
    refine ⟨t', h', State.eq_of_programView ?view rfl ?halt ?cycles (hunimpl'.trans hunimpl.symm)
      (hfault'.trans hfault.symm) (hdraws'.trans hdraws.symm)⟩
    case view =>
      obtain ⟨_, u, ht, hu, hview⟩ := meaning_programView f s
      obtain ⟨_, u', ht', hu', hview'⟩ := meaning_programView f { s with ime := v }
      cases h.symm.trans ht
      cases h'.symm.trans ht'
      cases hu.symm.trans hu'
      exact hview'.trans hview.symm
    case halt =>
      by_cases hhalt : f = .halt
      · subst hhalt; cases h; cases h'; rfl
      · exact (meaning_halt hhalt h').trans (meaning_halt hhalt h).symm
    case cycles =>
      have hcharge : f.charge { s with ime := v } = f.charge s := Form.charge_congr rfl f
      exact (meaning_cycles hf h').trans (hcharge ▸ (meaning_cycles hf h).symm)

/-- No step reads IME: neither the two tests nor the fetch does, and no instruction. -/
theorem step_set_ime {s t : State} (v : Bool) (h : step s = .next t) :
    ∃ t', step { s with ime := v } = .next t' ∧ { t' with ime := t.ime } = t := by
  obtain ⟨hfault, ⟨hhalt, rfl⟩ | ⟨hrun, hexec⟩⟩ := step_cases h
  · exact ⟨_, step_of_halt hfault hhalt, rfl⟩
  · rw [step_of_running (s := { s with ime := v }) hfault hrun]
    rw [exec_eq_meaning] at hexec ⊢
    exact meaning_set_ime _ _ v hexec

/-- Settles O18. -/
theorem imeIsOnlyBookkeeping : Obligations.ImeIsOnlyBookkeeping := by
  refine ⟨rfl, fun s => ⟨_, rfl, rfl⟩, fun s => ⟨_, rfl, rfl⟩, fun s => ⟨_, rfl, rfl⟩, ?frame, ?exec, ?step⟩
  case frame =>
    intro i s t hdi hei hreti h
    rw [exec_eq_meaning] at h
    exact meaning_ime (formOf_ne hdi) (formOf_ne hei) (formOf_ne hreti) h
  case exec =>
    intro i s t v h
    rw [exec_eq_meaning] at h ⊢
    exact meaning_set_ime _ s v h
  case step => exact fun _ _ => step_set_ime

end Sys2Proof.Machine
end

section
/-! PROOFS. What every instruction leaves unchanged of the general registers, SP and PC (rules R76 to R164), and that the
registers are independent cells (`10_state.md` R15 to R17, R23). -/

namespace Sys2Proof.Machine

@[simp] theorem State.reg8_setBc (s : State) (v : Word) (r : Reg8) :
    (s.setBc v).reg8 r = if r = .b then hiByte v else if r = .c then loByte v else s.reg8 r := by
  cases r <;> rfl

@[simp] theorem State.reg8_setDe (s : State) (v : Word) (r : Reg8) :
    (s.setDe v).reg8 r = if r = .d then hiByte v else if r = .e then loByte v else s.reg8 r := by
  cases r <;> rfl

@[simp] theorem State.reg8_setHl (s : State) (v : Word) (r : Reg8) :
    (s.setHl v).reg8 r = if r = .h then hiByte v else if r = .l then loByte v else s.reg8 r := by
  cases r <;> rfl

@[simp] theorem State.reg8_setAf (s : State) (v : Word) (r : Reg8) :
    (s.setAf v).reg8 r = if r = .a then hiByte v else s.reg8 r := by
  cases r <;> rfl

@[simp] theorem State.reg8_set_sp (s : State) (v : Word) (r : Reg8) : { s with sp := v }.reg8 r = s.reg8 r := by
  cases r <;> rfl

/-- A write of a pair `r16` leaves every register outside its cells (`10_state.md` R17). -/
theorem State.reg8_setReg16_of_notMem {p : Reg16} {r : Reg8} (hr : r ∉ p.cells) (s : State) (v : Word) :
    (s.setReg16 p v).reg8 r = s.reg8 r := by
  cases p <;> simp_all [setReg16, Reg16.cells, Reg16.pick]

/-- A write of a pair `r16stk` leaves every register outside its cells (`10_state.md` R17, R18). -/
theorem State.reg8_setStackPair_of_notMem {p : StackPair} {r : Reg8} (hr : r ∉ p.cells) (s : State) (v : Word) :
    (s.setStackPair p v).reg8 r = s.reg8 r := by
  cases p <;> simp_all [setStackPair, StackPair.cells, StackPair.pick]

/-- A write of an operand `r8` leaves every register but the operand (`00_scope.md` R9). -/
theorem State.reg8_write8_of_notMem {x : Operand8} {r : Reg8} (hr : r ∉ x.cells) (s : State) (v : Byte) :
    (s.write8 x v).reg8 r = s.reg8 r := by
  cases x with
  | reg q => simp_all [write8, Operand8.cells]
  | atHl => exact s.reg8_writeByte _ v r

/-- A general register that is no destination of an instruction is left as it was. -/
theorem meaning_reg8 {f : Form} {r : Reg8} (hr : r ∉ f.registers) {s t : State} (h : f.meaning s = .next t) :
    t.reg8 r = s.reg8 r := by
  cases f with
  | ldPairImm | incPair | decPair => cases h; simpa using State.reg8_setReg16_of_notMem hr s _
  | ldSpHl | addSp => cases h; simpa using State.reg8_setReg16_of_notMem (p := .sp) hr s _
  | incByte | decByte | rotate | resetBit | setBit => cases h; simpa using State.reg8_write8_of_notMem hr s _
  | pop p => cases h; simpa using State.reg8_setStackPair_of_notMem hr { s with sp := s.sp + 2#16 } _
  | alu op | aluImm op => cases h; cases hop : op.writesA <;> simp_all [Form.registers]
  | jpIf | jrIf | callIf | retIf => cases h; split <;> simp
  | reti | halt | di | ei => cases h; cases r <;> rfl
  | unimplemented op => cases h; cases r <;> simp [State.reg8]
  | _ => cases h; simp_all [Form.registers]

/-- A pair `r16` that is not SP is made of general registers. -/
theorem State.setReg16_sp_of_not_isSp {p : Reg16} (hp : p.isSp = false) (s : State) (v : Word) :
    (s.setReg16 p v).sp = s.sp := by
  cases p with
  | sp => cases hp
  | bc => rfl
  | de => rfl
  | hl => rfl

/-- SP is written by the SP loads and arithmetic and by the stack instructions only (`10_state.md` R23). -/
theorem meaning_sp {f : Form} (hf : f.writesSp = false) {s t : State} (h : f.meaning s = .next t) :
    t.sp = s.sp := by
  cases f with
  | ldPairImm | incPair | decPair => cases h; simpa using State.setReg16_sp_of_not_isSp hf s _
  | alu | aluImm => exact (congrArg State.sp (alu_frame h) :)
  | jpIf | jrIf => cases h; split <;> simp
  | ldSpHl | push | pop | addSp | call | callIf | ret | retIf | reti | rst => cases hf
  | _ => cases h; simp

/-- PC is written by the control transfers only (`42_control.md`). -/
theorem meaning_pc {f : Form} (hf : f.transfers = false) {s t : State} (h : f.meaning s = .next t) :
    t.pc = s.pc := by
  cases f with
  | alu | aluImm => exact (congrArg State.pc (alu_frame h) :)
  | jp | jpIf | jpHl | jr | jrIf | call | callIf | ret | retIf | reti | rst => cases hf
  | _ => cases h; simp

/-- Settles O22. -/
theorem frameRegisters : Obligations.FrameRegisters := by
  intro f s t h
  rw [exec_instr] at h
  exact ⟨fun _ hr => meaning_reg8 hr h, fun hf => meaning_sp hf h, fun hf => meaning_pc hf h⟩

/-- A pair `r16` reads as it was last written (`10_state.md` R17). -/
theorem State.reg16_setReg16 (s : State) (p : Reg16) (v : Word) : (s.setReg16 p v).reg16 p = v := by
  cases p with
  | sp => rfl
  | bc => exact pairWord_hiByte_loByte v
  | de => exact pairWord_hiByte_loByte v
  | hl => exact pairWord_hiByte_loByte v

/-- Settles O26. -/
theorem registerReadAfterWrite : Obligations.RegisterReadAfterWrite :=
  fun s r r' v p w => ⟨s.reg8_setReg8 r r' v, s.reg16_setReg16 p w, by cases r <;> rfl⟩

end Sys2Proof.Machine
end

section
/-! PROOFS. The flags along an execution: the table of `10_state.md` R21, row by row, and the low nibble of F
(`10_state.md` R19, R20). -/

namespace Sys2Proof.Machine

/-- Settles O27. -/
theorem flagPrimitives : Obligations.FlagPrimitives :=
  fun s x y v => ⟨s.flag_setFlag x y v, s.setFlag_nibble x v, rfl⟩

/-- What an entry of the table asks of a flag before and after (`10_state.md` R21). -/
def FlagEffect.Holds (e : FlagEffect) (before after : Bool) : Prop :=
  match e with
  | .unchanged => after = before
  | .zero => after = false
  | .one => after = true
  | .written => True

/-- The row of an instruction that leaves F. -/
theorem flagRow_unchanged_holds {s t : State} (h : t.f = s.f) (x : Flag) :
    (flagRow .unchanged .unchanged .unchanged .unchanged x).Holds (s.flag x) (t.flag x) := by
  cases x <;> exact State.flag_congr h _

theorem alu_flagEffect {op : AluOp} {src : AluSource} {s t : State} (h : alu op src s = .next t) (x : Flag) :
    (op.flagEffect x).Holds (s.flag x) (t.flag x) := by
  obtain ⟨u, hu, hflag, -, -⟩ := alu_spec op src s
  cases h.symm.trans hu
  rw [hflag]
  cases op <;> cases x <;> trivial

theorem rotate_flagEffect {op : RotateOp} {o : Operand8} {s t : State} (h : rotate op o s = .next t) (x : Flag) :
    (op.flagEffect x).Holds (s.flag x) (t.flag x) := by
  obtain ⟨u, hu, hflag, -⟩ := rotate_spec op o s
  cases h.symm.trans hu
  rw [hflag]
  cases op <;> cases x <;> trivial

theorem pop_flagEffect {p : StackPair} {s t : State} (h : pop p s = .next t) (x : Flag) :
    (p.flagEffect x).Holds (s.flag x) (t.flag x) := by
  by_cases hp : p = .af
  · subst hp
    cases x <;> trivial
  · rw [StackPair.flagEffect, if_neg hp]
    exact flagRow_unchanged_holds (pop_f hp h) x

/-- Every instruction does to each flag what the table says. -/
theorem meaning_flagEffect {f : Form} {s t : State} (h : f.meaning s = .next t) (x : Flag) :
    (f.flagEffect x).Holds (s.flag x) (t.flag x) := by
  cases f with
  | alu | aluImm => exact alu_flagEffect h x
  | rotate => exact rotate_flagEffect h x
  | pop => exact pop_flagEffect h x
  | ldHlSpOffset | addSp | incByte | decByte | addHl | rlca | rrca | rla | rra | daa | cpl | scf | ccf | testBit =>
    cases h
    cases x <;> simp [Form.flagEffect, flagRow, FlagEffect.Holds]
  | jpIf | jrIf | callIf | retIf => cases h; exact flagRow_unchanged_holds (by split <;> simp) x
  | _ => cases h; exact flagRow_unchanged_holds (by simp) x

/-- Settles O23; the low nibble of F is the subject of `meaning_nibble` and `pop_af_nibbleZero`. -/
theorem frameFlags : Obligations.FrameFlags := by
  intro f s t h
  rw [exec_instr] at h
  refine ⟨fun x => ?flags, fun hf => meaning_nibble hf h, fun hf => ?popAf⟩
  case flags => exact meaning_flagEffect h x
  case popAf =>
    subst hf
    exact pop_af_nibbleZero h

end Sys2Proof.Machine
end

section
/-! PROOFS. The loads through a pair, the 0xFF00 page and SP, the unconditional returns and CPU control: each changes a few
fields and adds its cycles (`40_loads.md` R80 to R84, R90 to R93, R96 to R98; `41_alu.md` R119; `42_control.md` R128, R133,
R135; `43_misc.md` R146 to R151). -/

namespace Sys2Proof.Machine

/-- Settles O35: the 0xFF00 page is addressed by its low byte (`highPage_eq`). -/
theorem loadsThroughRegisters : Obligations.LoadsThroughRegisters := by
  simp only [Obligations.LoadsThroughRegisters, ← highPage_eq]
  intro s
  refine ⟨?aBc, ?aDe, ?bcA, ?deA, ?highCA, ?aHighC⟩
  case aBc => exact runs_of_change (s.setReg8_cycles .a (s.readByte s.bc)) rfl
  case aDe => exact runs_of_change (s.setReg8_cycles .a (s.readByte s.de)) rfl
  case bcA => exact runs_of_change (s.writeByte_cycles s.bc s.a) rfl
  case deA => exact runs_of_change (s.writeByte_cycles s.de s.a) rfl
  case highCA => exact runs_of_change (s.writeByte_cycles (highPage s.c) s.a) rfl
  case aHighC => exact runs_of_change (s.setReg8_cycles .a (s.readByte (highPage s.c))) rfl

/-- Settles O38. -/
theorem highPageLoads : Obligations.HighPageLoads := by
  simp only [Obligations.HighPageLoads, ← highPage_eq]
  intro s n
  refine ⟨?hlImm, ?highA, ?aHigh⟩
  case hlImm => exact runs_of_change (s.writeByte_cycles s.hl n) rfl
  case highA => exact runs_of_change (s.writeByte_cycles (highPage n) s.a) rfl
  case aHigh => exact runs_of_change (s.setReg8_cycles .a (s.readByte (highPage n))) rfl

/-- Settles O39: the two sums are those of `sp_add`, whose flags are written whole. -/
theorem stackPointerArithmetic : Obligations.StackPointerArithmetic := by
  simp only [Obligations.StackPointerArithmetic, ← add_signExtend]
  intro s nn e
  refine ⟨?absSp, ?spHl, ⟨_, runs_of_meaning rfl, ?hlFlags, ?hlFrame⟩, ⟨_, runs_of_meaning rfl, ?spFlags, ?spFrame⟩⟩
  case absSp => exact runs_of_change (s.writeWord_cycles nn s.sp) rfl
  case spHl => exact runs_of_change (s.setReg16_cycles .sp s.hl) rfl
  case hlFlags | spFlags => simp [State.HasFlags, spAdd]
  case hlFrame => simp [spAdd]
  case spFrame => simp [spAdd, State.setReg16]

/-- Settles O48. -/
theorem unconditionalReturns : Obligations.UnconditionalReturns :=
  fun s => ⟨runs_of_change (s.jump_cycles s.hl) rfl, runs_of_change s.popPc_cycles rfl,
    runs_of_change (t := { s.popPc with ime := true }) rfl rfl⟩

/-- Settles O54. -/
theorem cpuControl : Obligations.CpuControl :=
  fun s => ⟨runs_of_change (t := s) rfl rfl, runs_of_change (t := s) rfl rfl,
    runs_of_change (t := { s with halt := true }) rfl rfl, runs_of_change (t := { s with ime := false }) rfl rfl,
    runs_of_change (t := { s with ime := true }) rfl rfl⟩

/-- Settles O55, by cases on the policy. -/
theorem unimplementedOpcodeEvent : Obligations.UnimplementedOpcodeEvent := by
  intro s op
  refine ⟨_, rfl, ?_⟩
  cases hpolicy : Config.unimplPolicy with
  | record => exact ⟨Nat.le_add_right _ _, rfl⟩
  | fatal => rfl

end Sys2Proof.Machine
end

section
/-! PROOFS. The A-ALU matrix, INC and DEC, and the pair arithmetic (`41_alu.md` R105 to R118), from the results in exact
arithmetic. -/

namespace Sys2Proof.Machine

/-- A form of the A-ALU matrix, on each of the three forms of a source: A, the four flags and nothing else but the cycles
(`41_alu.md` R105). -/
theorem exec_aluForm (op : AluOp) (src : AluSource) (s : State) :
    let r := op.result s.a (s.source src) (s.flag .c)
    ∃ t, exec (aluForm op src).instr s = .next t ∧ t.a = (if op.writesA then r.value else s.a) ∧
      t.HasFlags r.z r.n r.h r.c ∧ { t with a := s.a, f := s.f } = { s with cycles := s.cycles + src.cost } := by
  have hexec : exec (aluForm op src).instr s = alu op src s := by
    cases src with
    | operand x => exact exec_instr (.alu op x) s
    | imm n => exact exec_instr (.aluImm op n) s
  obtain ⟨t, ht, hflag, ha, hframe⟩ := alu_spec op src s
  exact ⟨t, hexec.trans ht, ha, ⟨hflag .z, hflag .n, hflag .h, hflag .c⟩, hframe⟩

theorem addCarry_z (a v : Byte) (c : Bool) :
    (addCarry a v c).z = decide ((a.toNat + v.toNat + c.toNat) % 256 = 0) := by
  rw [← addCarry_value, ← beq_zero]
  rfl

/-- Settles O41: ADD is the sum without a carry, ADC the one with the old carry. -/
theorem addAndAddWithCarry : Obligations.AddAndAddWithCarry := by
  intro s src
  refine ⟨?add, ?adc⟩
  case add =>
    obtain ⟨t, ht, ha, ⟨hz, hn, hh, hc⟩, hframe⟩ := exec_aluForm .add src s
    exact ⟨t, ht, ha ▸ addCarry_value _ _ false, ⟨hz.trans (addCarry_z _ _ false), hn, hh, hc⟩, hframe⟩
  case adc =>
    obtain ⟨t, ht, ha, ⟨hz, hn, hh, hc⟩, hframe⟩ := exec_aluForm .adc src s
    exact ⟨t, ht, ha ▸ addCarry_value _ _ _, ⟨hz.trans (addCarry_z _ _ _), hn, hh, hc⟩, hframe⟩

theorem subBorrow_z (a v : Byte) (c : Bool) :
    (subBorrow a v c).z = decide (((a.toNat : Int) - v.toNat - c.toNat) % 256 = 0) := by
  simp only [← subBorrow_value, Int.natCast_eq_zero, ← beq_zero]
  rfl

/-- Without a borrow the difference of two bytes is zero exactly when they are equal. -/
theorem subBorrow_false_z (a v : Byte) : (subBorrow a v false).z = decide (a.toNat = v.toNat) := by
  have := a.isLt
  have := v.isLt
  rw [subBorrow_z, decide_eq_decide, Bool.toNat_false]
  omega

theorem subBorrow_false_value (a v : Byte) :
    ((subBorrow a v false).value.toNat : Int) = ((a.toNat : Int) - v.toNat) % 256 := by
  simpa using subBorrow_value a v false

/-- Settles O42: SUB and CP are the difference without a borrow, SBC the one with the old carry; CP leaves A. -/
theorem subtractAndCompare : Obligations.SubtractAndCompare := by
  intro s src
  refine ⟨?sub, ?sbc, ?cp⟩
  case sub =>
    obtain ⟨t, ht, ha, ⟨hz, hn, hh, hc⟩, hframe⟩ := exec_aluForm .sub src s
    exact ⟨t, ht, ha ▸ subBorrow_false_value _ _, ⟨hz.trans (subBorrow_false_z _ _), hn, hh, hc⟩, hframe⟩
  case sbc =>
    obtain ⟨t, ht, ha, ⟨hz, hn, hh, hc⟩, hframe⟩ := exec_aluForm .sbc src s
    exact ⟨t, ht, ha ▸ subBorrow_value _ _ _, ⟨hz.trans (subBorrow_z _ _ _), hn, hh, hc⟩, hframe⟩
  case cp =>
    obtain ⟨t, ht, ha, ⟨hz, hn, hh, hc⟩, hframe⟩ := exec_aluForm .cp src s
    have ha : t.a = s.a := ha
    exact ⟨t, ht, ⟨hz.trans (subBorrow_false_z _ _), hn, hh, hc⟩, by simpa [ha] using hframe⟩

/-- Settles O43: the bits are those of the bitwise operation on the two bytes, and Z is taken from the new A. -/
theorem bitwiseOperations : Obligations.BitwiseOperations := by
  intro s src
  refine ⟨?and, ?or, ?xor⟩
  case and =>
    obtain ⟨t, ht, ha, ⟨hz, hn, hh, hc⟩, hframe⟩ := exec_aluForm .and src s
    exact ⟨t, ht, fun _ => ha ▸ BitVec.getLsbD_and, ⟨hz.trans (ha ▸ beq_zero _), hn, hh, hc⟩, hframe⟩
  case or =>
    obtain ⟨t, ht, ha, ⟨hz, hn, hh, hc⟩, hframe⟩ := exec_aluForm .or src s
    exact ⟨t, ht, fun _ => ha ▸ BitVec.getLsbD_or, ⟨hz.trans (ha ▸ beq_zero _), hn, hh, hc⟩, hframe⟩
  case xor =>
    obtain ⟨t, ht, ha, ⟨hz, hn, hh, hc⟩, hframe⟩ := exec_aluForm .xor src s
    exact ⟨t, ht, fun _ => ha ▸ BitVec.getLsbD_xor, ⟨hz.trans (ha ▸ beq_zero _), hn, hh, hc⟩, hframe⟩

theorem byte_inc (v : Byte) : v + 1#8 = BitVec.ofNat 8 (v.toNat + 1) := by
  revert v; decide

theorem byte_dec (v : Byte) : v - 1#8 = BitVec.ofNat 8 (v.toNat + 255) := by
  revert v; decide

theorem inc_beq_zero (v : Byte) : (v + 1#8 == 0#8) = decide (v.toNat = 255) := by
  revert v; decide

theorem dec_beq_zero (v : Byte) : (v - 1#8 == 0#8) = decide (v.toNat = 1) := by
  revert v; decide

/-- Settles O44. -/
theorem incrementAndDecrement : Obligations.IncrementAndDecrement := by
  intro s x
  refine ⟨?inc, ?dec⟩
  case inc =>
    obtain ⟨t, ht, hflag, hframe⟩ := incByte_spec x s
    exact ⟨t, (exec_instr _ s).trans ht, ⟨(hflag .z).trans (inc_beq_zero _), hflag .n, hflag .h, hflag .c⟩,
      byte_inc _ ▸ hframe⟩
  case dec =>
    obtain ⟨t, ht, hflag, hframe⟩ := decByte_spec x s
    exact ⟨t, (exec_instr _ s).trans ht, ⟨(hflag .z).trans (dec_beq_zero _), hflag .n, hflag .h, hflag .c⟩,
      byte_dec _ ▸ hframe⟩

/-- ADD HL,rr: HL, N, H and C are written, Z is left (`41_alu.md` R118). -/
theorem addHl_spec (p : Reg16) (s : State) :
    let r := addWords s.hl (s.reg16 p)
    ∃ t, addHl p s = .next t ∧ t.HasFlags (s.flag .z) false r.h r.c ∧
      { t with f := s.f } = { s.setHl r.value with cycles := s.cycles + 8 } :=
  ⟨_, rfl, by simp [State.HasFlags], by simp⟩

theorem addWords_value (hl v : Word) : (addWords hl v).value = BitVec.ofNat 16 (hl.toNat + v.toNat) := by
  rw [BitVec.ofNat_add, BitVec.ofNat_toNat, BitVec.ofNat_toNat, BitVec.setWidth_eq, BitVec.setWidth_eq]
  rfl

/-- Settles O45. -/
theorem pairArithmetic : Obligations.PairArithmetic := by
  simp only [Obligations.PairArithmetic, ← word_inc, ← word_dec, ← addWords_value, exec_instr]
  intro s p
  refine ⟨?inc, ?dec, addHl_spec p s⟩
  case inc => exact congrArg _ (State.addCycles_of_cycles_eq (s.setReg16_cycles p _) 8)
  case dec => exact congrArg _ (State.addCycles_of_cycles_eq (s.setReg16_cycles p _) 8)

end Sys2Proof.Machine
end

section
/-! PROOFS. The rotates and shifts (`43_misc.md` R138 to R141; `44_cb_prefix.md` R153 to R161): their results in exact
arithmetic, and the inverses among them. -/

namespace Sys2Proof.Machine

/-- The byte of a rotate or shift in exact arithmetic (`44_cb_prefix.md` R154 to R161). -/
theorem RotateOp.result_value_toNat (op : RotateOp) (v : Byte) (c : Bool) :
    (op.result v c).value.toNat = (op.arithmetic v.toNat c.toNat).1 := by
  revert v; cases op <;> cases c <;> decide

/-- The bit moved out (`44_cb_prefix.md` R154 to R161). -/
theorem RotateOp.result_carry (op : RotateOp) (v : Byte) (c : Bool) :
    (op.result v c).carry = decide ((op.arithmetic v.toNat c.toNat).2 = 1) := by
  revert v; cases op <;> cases c <;> decide

theorem RotateOp.result_value (op : RotateOp) (v : Byte) (c : Bool) :
    (op.result v c).value = BitVec.ofNat 8 (op.arithmetic v.toNat c.toNat).1 := by
  rw [← result_value_toNat, BitVec.ofNat_toNat, BitVec.setWidth_eq]

/-- A rotate of A by a form of its own: Z is forced 0 (`43_misc.md` R138 to R141). -/
theorem rotateA_spec (op : RotateOp) (s : State) :
    let r := op.arithmetic s.a.toNat (s.flag .c).toNat
    ∃ t, rotateA op s = .next t ∧ t.a.toNat = r.1 ∧ t.HasFlags false false false (decide (r.2 = 1)) ∧
      { t with a := s.a, f := s.f } = { s with cycles := s.cycles + 4 } := by
  refine ⟨_, rfl, op.result_value_toNat _ _, ⟨?z, ?n, ?h, ?c⟩, ?frame⟩
  case c => simp [op.result_carry]
  case frame => simp [State.setReg8]
  all_goals simp

/-- Settles O49. -/
theorem rotatesAndShifts : Obligations.RotatesAndShifts := by
  refine ⟨fun s f op hmem => ?accumulator, fun s op x _ => ?operand⟩
  case accumulator =>
    have hexec : exec f.instr s = rotateA op s := by
      simp only [List.mem_cons, Prod.mk.injEq, List.not_mem_nil, or_false] at hmem
      rcases hmem with ⟨rfl, rfl⟩ | ⟨rfl, rfl⟩ | ⟨rfl, rfl⟩ | ⟨rfl, rfl⟩ <;> rfl
    rw [hexec]
    exact rotateA_spec op s
  case operand =>
    obtain ⟨t, ht, hflag, hframe⟩ := rotate_spec op x s
    refine ⟨t, (exec_instr _ s).trans ht, ⟨?z, hflag .n, hflag .h, (hflag .c).trans (op.result_carry _ _)⟩, ?frame⟩
    case z =>
      rw [← op.result_value_toNat, ← beq_zero]
      exact hflag .z
    case frame => rw [← op.result_value, hframe]

@[simp] theorem State.read8_addCycles (s : State) (n : Nat) (x : Operand8) : (s.addCycles n).read8 x = s.read8 x :=
  State.read8_congr (s.reg8_addCycles n) (s.readByte_addCycles n) x

@[simp] theorem State.read8_setFlags (s : State) (z n h c : Bool) (x : Operand8) :
    (s.setFlags z n h c).read8 x = s.read8 x :=
  State.read8_congr (s.reg8_setFlags z n h c) (s.readByte_setFlags z n h c) x

/-- What a rotate leaves in its operand and in C, where the next instruction finds them. -/
theorem exec_rotate (op : RotateOp) (x : Operand8) (s : State) :
    let r := op.result (s.read8 x) (s.flag .c)
    ∃ t, exec (Form.rotate op x).instr s = .next t ∧ t.read8 x = r.value ∧ t.flag .c = r.carry :=
  ⟨_, exec_instr _ s, by simp [State.read8_write8], by simp⟩

/-- Two rotates in turn on one operand: the second takes the byte and the carry of the first. -/
theorem exec_rotate_rotate (op op' : RotateOp) (x : Operand8) (s : State) :
    let r := op.result (s.read8 x) (s.flag .c)
    ∃ t u, exec (Form.rotate op x).instr s = .next t ∧ exec (Form.rotate op' x).instr t = .next u ∧
      u.read8 x = (op'.result r.value r.carry).value ∧ u.flag .c = (op'.result r.value r.carry).carry := by
  obtain ⟨t, ht, hread, hcarry⟩ := exec_rotate op x s
  obtain ⟨u, hu, hread', hcarry'⟩ := exec_rotate op' x t
  rw [hread, hcarry] at hread' hcarry'
  exact ⟨t, u, ht, hu, hread', hcarry'⟩

/-- A second rotate undoes a first on the byte, whatever the old carry. -/
def RotateOp.Undoes (op' op : RotateOp) : Prop :=
  ∀ (v : Byte) (c : Bool), (op'.result (op.result v c).value (op.result v c).carry).value = v

theorem rrc_undoes_rlc : RotateOp.rrc.Undoes .rlc := by unfold RotateOp.Undoes; decide

theorem rlc_undoes_rrc : RotateOp.rlc.Undoes .rrc := by unfold RotateOp.Undoes; decide

theorem swap_undoes_swap : RotateOp.swap.Undoes .swap := by unfold RotateOp.Undoes; decide

theorem rr_undoes_rl : RotateOp.rr.Undoes .rl := by unfold RotateOp.Undoes; decide

/-- RL moves the old carry into bit 0, and RR moves it out again. -/
theorem rr_rl_carry (v : Byte) (c : Bool) :
    (RotateOp.rr.result (RotateOp.rl.result v c).value (RotateOp.rl.result v c).carry).carry = c := by
  revert v c; decide

theorem exec_rotate_of_undoes {op op' : RotateOp} (h : op'.Undoes op) (s : State) (x : Operand8) :
    ∃ t u, exec (Form.rotate op x).instr s = .next t ∧ exec (Form.rotate op' x).instr t = .next u ∧
      u.read8 x = s.read8 x := by
  obtain ⟨t, u, ht, hu, hread, -⟩ := exec_rotate_rotate op op' x s
  exact ⟨t, u, ht, hu, hread.trans (h _ _)⟩

/-- Settles O56. -/
theorem rotatesHaveInverses : Obligations.RotatesHaveInverses := by
  intro s x
  refine ⟨exec_rotate_of_undoes rrc_undoes_rlc s x, exec_rotate_of_undoes rlc_undoes_rrc s x,
    exec_rotate_of_undoes swap_undoes_swap s x, ?_⟩
  obtain ⟨t, u, ht, hu, hread, hcarry⟩ := exec_rotate_rotate .rl .rr x s
  exact ⟨t, u, ht, hu, hread.trans (rr_undoes_rl _ _), hcarry.trans (rr_rl_carry _ _)⟩

end Sys2Proof.Machine
end

section
/-! PROOFS. DAA and the flag operations (`43_misc.md` R142 to R145), and what DAA makes of the sum and the difference of two
BCD bytes. -/

namespace Sys2Proof.Machine

/-- The adjusted byte in exact arithmetic (`43_misc.md` R142). -/
theorem daaResult_value (a : Byte) (n h c : Bool) :
    ((daaResult a n h c).value.toNat : Int) = ((a.toNat : Int) + daaAdjustment a.toNat n h c) % 256 := by
  revert a n h c; decide

theorem daaResult_carry (a : Byte) (n h c : Bool) :
    (daaResult a n h c).carry = (c || (!n && decide (a.toNat > 0x99))) := by
  cases n <;> cases c <;> simp [daaResult]

/-- DAA writes A, Z, H and C, and nothing else but the cycles (`43_misc.md` R142). -/
theorem decimalAdjust_spec (s : State) :
    let r := daaResult s.a (s.flag .n) (s.flag .h) (s.flag .c)
    ∃ t, exec .daa s = .next t ∧ t.a = r.value ∧ t.HasFlags (r.value == 0#8) (s.flag .n) false r.carry ∧
      { t with a := s.a, f := s.f } = { s with cycles := s.cycles + 4 } :=
  ⟨_, rfl, rfl, by simp [State.HasFlags], by simp [State.setReg8]⟩

/-- Settles O52. -/
theorem decimalAdjustAlgorithm : Obligations.DecimalAdjustAlgorithm := by
  intro s
  obtain ⟨t, ht, ha, ⟨hz, hn, hh, hc⟩, hframe⟩ := decimalAdjust_spec s
  simp only [← daaResult_value, Int.natCast_eq_zero, ← beq_zero]
  exact ⟨t, ht, ha ▸ rfl, ⟨hz, hn, hh, hc.trans (daaResult_carry _ _ _ _)⟩, hframe⟩

/-- Settles O53. -/
theorem flagOperations : Obligations.FlagOperations := by
  intro s
  refine ⟨⟨_, rfl, ?not, ?cplFlags, ?cplFrame⟩, ⟨_, rfl, ?scfFlags, ?scfFrame⟩, ⟨_, rfl, ?ccfFlags, ?ccfFrame⟩⟩
  case not => exact BitVec.toNat_not
  case cplFlags | scfFlags | ccfFlags => simp [State.HasFlags]
  case cplFrame => simp [State.setReg8]
  case scfFrame | ccfFrame => simp

/-- The value of the BCD byte of two decimal digits (`00_scope.md` R14). -/
def bcdValue (n : Nat) : Nat := n / 10 * 16 + n % 10

theorem bcd_toNat {n : Nat} (hn : n < 100) : (bcd n).toNat = bcdValue n := by
  rw [bcd, BitVec.toNat_ofNat]
  exact Nat.mod_eq_of_lt (by omega)

/-- DAA on the sum of two BCD bytes whose high digits add up to `j` and whose low digits add up to `k`: each digit that came
out above 9 is carried over. -/
theorem daaResult_digitSums : ∀ j k : Fin 19,
    let r := daaResult (BitVec.ofNat 8 (16 * j.val + k.val)) false (decide (k.val > 15)) (decide (16 * j.val + k.val > 255))
    r.value = bcd ((10 * j.val + k.val) % 100) ∧ r.carry = decide (100 ≤ 10 * j.val + k.val) := by
  decide

/-- DAA on the difference of two BCD bytes whose high digits differ by `j - 9` and whose low digits differ by `k - 9`: what a
digit borrowed in excess is taken off. -/
theorem daaResult_digitDifferences : ∀ j k : Fin 19,
    let r := daaResult (BitVec.ofNat 8 (16 * j.val + k.val + 103)) true (decide (k.val < 9))
      (decide (16 * j.val + k.val < 153))
    r.value = bcd ((10 * j.val + k.val + 1) % 100) ∧ r.carry = decide (10 * j.val + k.val < 99) := by
  decide

/-- The sum of two BCD bytes, by the sums of their digits. -/
theorem addCarry_bcd {m n : Nat} (hm : m < 100) (hn : n < 100) :
    let r := addCarry (bcd m) (bcd n) false
    let j := m / 10 + n / 10
    let k := m % 10 + n % 10
    r.value = BitVec.ofNat 8 (16 * j + k) ∧ r.n = false ∧ r.h = decide (k > 15) ∧ r.c = decide (16 * j + k > 255) := by
  have hsum : bcdValue m + bcdValue n = 16 * (m / 10 + n / 10) + (m % 10 + n % 10) := by unfold bcdValue; omega
  have hm16 : bcdValue m % 16 = m % 10 := by unfold bcdValue; omega
  have hn16 : bcdValue n % 16 = n % 10 := by unfold bcdValue; omega
  simp only [addCarry, bcd_toNat hm, bcd_toNat hn, Bool.toNat_false, Nat.add_zero, hsum, hm16, hn16, and_self]

/-- The difference of two BCD bytes, by the differences of their digits. -/
theorem subBorrow_bcd {m n : Nat} (hm : m < 100) (hn : n < 100) :
    let r := subBorrow (bcd m) (bcd n) false
    let j := m / 10 + 9 - n / 10
    let k := m % 10 + 9 - n % 10
    r.value = BitVec.ofNat 8 (16 * j + k + 103) ∧ r.n = true ∧ r.h = decide (k < 9) ∧ r.c = decide (16 * j + k < 153) := by
  have hvalue := subBorrow_false_value (bcd m) (bcd n)
  rw [bcd_toNat hm, bcd_toNat hn] at hvalue
  unfold bcdValue at hvalue
  refine ⟨BitVec.eq_of_toNat_eq ?value, rfl, ?half, ?borrow⟩
  case value => rw [BitVec.toNat_ofNat]; omega
  case half =>
    simp only [subBorrow, bcd_toNat hm, bcd_toNat hn, Bool.toNat_false, decide_eq_decide, bcdValue]
    omega
  case borrow =>
    simp only [subBorrow, bcd_toNat hm, bcd_toNat hn, Bool.toNat_false, decide_eq_decide, bcdValue]
    omega

/-- DAA after an addition of two BCD bytes. -/
theorem daaResult_addCarry_bcd {m n : Nat} (hm : m < 100) (hn : n < 100) :
    let r := addCarry (bcd m) (bcd n) false
    let d := daaResult r.value r.n r.h r.c
    d.value = bcd ((m + n) % 100) ∧ d.carry = decide (100 ≤ m + n) := by
  obtain ⟨hvalue, hneg, hhalf, hcarry⟩ := addCarry_bcd hm hn
  have hdigits : 10 * (m / 10 + n / 10) + (m % 10 + n % 10) = m + n := by omega
  have h := daaResult_digitSums ⟨m / 10 + n / 10, by omega⟩ ⟨m % 10 + n % 10, by omega⟩
  simpa only [hvalue, hneg, hhalf, hcarry, hdigits] using h

/-- DAA after a subtraction of two BCD bytes. -/
theorem daaResult_subBorrow_bcd {m n : Nat} (hm : m < 100) (hn : n < 100) :
    let r := subBorrow (bcd m) (bcd n) false
    let d := daaResult r.value r.n r.h r.c
    d.value = bcd ((m + 100 - n) % 100) ∧ d.carry = decide (m < n) := by
  obtain ⟨hvalue, hneg, hhalf, hcarry⟩ := subBorrow_bcd hm hn
  have hdigits : 10 * (m / 10 + 9 - n / 10) + (m % 10 + 9 - n % 10) + 1 = m + 100 - n := by omega
  have hborrow : 10 * (m / 10 + 9 - n / 10) + (m % 10 + 9 - n % 10) < 99 ↔ m < n := by omega
  have h := daaResult_digitDifferences ⟨m / 10 + 9 - n / 10, by omega⟩ ⟨m % 10 + 9 - n % 10, by omega⟩
  simpa only [hvalue, hneg, hhalf, hcarry, hdigits, hborrow] using h

/-- An A-ALU operation that writes A, and then DAA: DAA finds the result of the operation in A and F. -/
theorem exec_alu_daa {op : AluOp} (hop : op.writesA = true) (s : State) (v : Byte) :
    let r := op.result s.a v (s.flag .c)
    let d := daaResult r.value r.n r.h r.c
    ∃ t u, exec (aluForm op (.imm v)).instr s = .next t ∧ exec .daa t = .next u ∧ u.a = d.value ∧
      u.flag .c = d.carry := by
  obtain ⟨t, ht, hta, ⟨-, htn, hth, htc⟩, -⟩ := exec_aluForm op (.imm v) s
  obtain ⟨u, hu, hua, ⟨-, -, -, huc⟩, -⟩ := decimalAdjust_spec t
  rw [if_pos hop] at hta
  rw [hta, htn, hth, htc] at hua huc
  exact ⟨t, u, ht, hu, hua, huc⟩

/-- Settles O57. -/
theorem decimalArithmetic : Obligations.DecimalArithmetic := by
  intro s m n hm hn ha
  obtain ⟨hsum, hcarry⟩ := daaResult_addCarry_bcd hm hn
  obtain ⟨hdifference, hborrow⟩ := daaResult_subBorrow_bcd hm hn
  rw [← ha] at hsum hcarry hdifference hborrow
  obtain ⟨t, u, ht, hu, hua, huc⟩ := exec_alu_daa (op := .add) rfl s (bcd n)
  obtain ⟨t', u', ht', hu', hua', huc'⟩ := exec_alu_daa (op := .sub) rfl s (bcd n)
  exact ⟨⟨t, u, ht, hu, hua.trans hsum, huc.trans hcarry⟩, ⟨t', u', ht', hu', hua'.trans hdifference, huc'.trans hborrow⟩⟩

end Sys2Proof.Machine
end

section
/-! PROOFS. The boot state and the load of an image (`10_state.md` R36; `70_reset_and_hazards.md` R193 to R197). -/

namespace Sys2Proof.Machine

/-- A byte nothing has written reads as its init value (`10_state.md` R36, `20_memory.md` R42). -/
theorem State.readByte_reset (a : Word) :
    State.reset.readByte a = if a = 0xFF40#16 then 0x91#8 else if a = 0xFF47#16 then 0xE4#8 else 0x00#8 := by
  show Memory.initial a.toNat = _
  simp only [Memory.initial, ← BitVec.toNat_inj, BitVec.toNat_ofNat]

/-- Settles O7. -/
theorem resetInstallsBootState : Obligations.ResetInstallsBootState := by
  refine ⟨rfl, rfl, rfl, rfl, rfl, rfl, rfl, rfl, rfl, rfl, rfl, rfl, rfl, rfl, ?flags, ?memory, rfl, rfl, rfl, rfl, rfl⟩
  case flags => decide
  case memory => exact State.readByte_reset

/-- Settles O8. -/
theorem resetMeetsTheInvariant : Obligations.ResetMeetsTheInvariant :=
  ⟨rfl, Memory.wf_nil⟩

/-- Consecutive bytes stored from an address on, below the end of memory: each stands at its offset from that address, and
every other byte is as before. -/
theorem State.readByte_writeBytes (s : State) (bytes : List Byte) {k : Nat} (hk : k + bytes.length ≤ 65536) (b : Word) :
    (s.writeBytes (BitVec.ofNat 16 k) bytes).readByte b =
      if k ≤ b.toNat then bytes.getD (b.toNat - k) (s.readByte b) else s.readByte b := by
  induction bytes generalizing s k with
  | nil => simp [writeBytes]
  | cons v rest ih =>
    rw [List.length_cons] at hk
    have hnext : BitVec.ofNat 16 k + 1#16 = BitVec.ofNat 16 (k + 1) := (BitVec.ofNat_add k 1).symm
    have hb : b = BitVec.ofNat 16 k ↔ b.toNat = k := by
      rw [← BitVec.toNat_inj, BitVec.toNat_ofNat, Nat.mod_eq_of_lt (by omega)]
    rw [writeBytes, hnext, ih _ (by omega), readByte_writeByte]
    simp only [hb]
    rcases Nat.lt_trichotomy b.toNat k with hlt | heq | hgt
    · rw [if_neg (show ¬k + 1 ≤ b.toNat by omega), if_neg (Nat.ne_of_lt hlt), if_neg (Nat.not_le.2 hlt)]
    · rw [if_neg (show ¬k + 1 ≤ b.toNat by omega), if_pos heq, if_pos (Nat.le_of_eq heq.symm), heq, Nat.sub_self,
        List.getD_cons_zero]
    · rw [if_pos (Nat.succ_le_of_lt hgt), if_neg (Nat.ne_of_gt hgt), if_pos (Nat.le_of_lt hgt),
        show b.toNat - k = b.toNat - (k + 1) + 1 by omega, List.getD_cons_succ]

/-- Settles O60: the bytes of an image that fits stand from address 0 on, and the load writes memory only. -/
theorem launchLoadsTheImage : Obligations.LaunchLoadsTheImage := by
  refine ⟨fun rom hrom => ⟨_, if_pos hrom, fun a => ?byte, ?frame⟩, fun rom hrom => if_neg (Nat.not_le.2 hrom), rfl⟩
  case byte => exact (State.reset.readByte_writeBytes rom (k := 0) (by omega) a).trans (if_pos (Nat.zero_le _))
  case frame => rw [State.writeBytes_eq]; rfl

end Sys2Proof.Machine
end

section
/-! PROOFS. The background renderer (`60_exceptions.md` R181 to R188): the addresses it reads, its pixel by R182 to R186, and
that it reads LCDC bits 3 and 4, BGP and VRAM only. -/

namespace Sys2Proof.Machine

theorem getPixel_of_frame (s : State) {x y : Int} (h : 0 ≤ x ∧ x < 160 ∧ 0 ≤ y ∧ y < 144) :
    getPixel s x y = .ok (s.pixel x.toNat y.toNat) :=
  if_pos h

theorem getPixel_of_not_frame (s : State) {x y : Int} (h : ¬(0 ≤ x ∧ x < 160 ∧ 0 ≤ y ∧ y < 144)) :
    getPixel s x y = .error .pixelOutsideFrame :=
  if_neg h

/-- VRAM, 0x8000 to 0x9FFF (`20_memory.md`). -/
def InVram (a : Nat) : Prop := 0x8000 ≤ a ∧ a < 0xA000

/-- The map entry of a pixel of the frame is in VRAM (R182). -/
theorem mapAddress_inVram (lcdc : Byte) {x y : Nat} (hx : x < 160) (hy : y < 144) : InVram (mapAddress lcdc x y) := by
  unfold mapAddress mapBase InVram
  split <;> omega

/-- The tile address in exact arithmetic: the signed index does not take it below 0x8800 (R183). -/
theorem tileAddress_eq (lcdc index : Byte) :
    (tileAddress lcdc index : Int) =
      if lcdc.getLsbD 4 then 0x8000 + (index.toNat : Int) * 16 else 0x9000 + index.toInt * 16 := by
  have hlo : -128 ≤ index.toInt := index.le_toInt
  unfold tileAddress
  split
  · simp
  · exact Int.toNat_of_nonneg (by omega)

/-- The sixteen bytes of a tile are in VRAM (R183). -/
theorem tileAddress_inVram (lcdc index : Byte) {k : Nat} (hk : k < 16) : InVram (tileAddress lcdc index + k) := by
  have h := tileAddress_eq lcdc index
  have hbyte := index.isLt
  have hlo : -128 ≤ index.toInt := index.le_toInt
  have hhi : index.toInt < 128 := index.toInt_lt
  unfold InVram
  split at h <;> omega

/-- The shade in exact arithmetic (R185). -/
theorem shadeOf_eq (bgp : Byte) (id : Nat) : shadeOf bgp id = bgp.toNat / 4 ^ id % 4 := by
  rw [shadeOf, Nat.shiftRight_eq_div_pow, Nat.mul_comm, Nat.pow_mul]

/-- The four values of R186, as a list. -/
theorem pixelOfShade_eq {shade : Nat} (h : shade < 4) :
    pixelOfShade shade = [0xFFFFFF#32, 0xAAAAAA#32, 0x555555#32, 0x000000#32].getD shade 0#32 := by
  interval_cases shade <;> rfl

/-- A byte of a tile, at its address in exact arithmetic taken modulo 65 536. -/
theorem State.byteAt_tileAddress (s : State) (lcdc index : Byte) (k : Nat) :
    s.byteAt (tileAddress lcdc index + k) = s.readByte (BitVec.ofInt 16
      ((if lcdc.getLsbD 4 then 0x8000 + (index.toNat : Int) * 16 else 0x9000 + index.toInt * 16) + (k : Int))) := by
  rw [← tileAddress_eq, ← Int.natCast_add, BitVec.ofInt_natCast]
  rfl

/-- Settles O58. -/
theorem pixelAlgorithm : Obligations.PixelAlgorithm := by
  refine ⟨fun s x y hx hy => ?pixel, fun s x y h => getPixel_of_not_frame s h⟩
  case pixel =>
    rw [getPixel_of_frame s (by omega), Int.toNat_natCast, Int.toNat_natCast, State.pixel, shadeOf_eq,
      pixelOfShade_eq (Nat.mod_lt _ (by decide)), State.colorId, Nat.add_assoc, State.byteAt_tileAddress,
      State.byteAt_tileAddress, Nat.mul_comm 2]
    rfl

/-- Two states that hold the same byte at every address of VRAM. -/
theorem State.byteAt_congr {s t : State} (h : ∀ a : Word, 0x8000 ≤ a.toNat → a.toNat < 0xA000 → s.readByte a = t.readByte a)
    {a : Nat} (ha : InVram a) : s.byteAt a = t.byteAt a := by
  obtain ⟨hlo, hhi⟩ := ha
  have htoNat : (BitVec.ofNat 16 a).toNat = a := by rw [BitVec.toNat_ofNat, Nat.mod_eq_of_lt (by omega)]
  exact h _ (by omega) (by omega)

/-- The map address reads LCDC bit 3 only (R182). -/
theorem mapAddress_congr {l l' : Byte} (h : l.getLsbD 3 = l'.getLsbD 3) (x y : Nat) :
    mapAddress l x y = mapAddress l' x y := by
  rw [mapAddress, mapAddress, mapBase, mapBase, h]

/-- The tile address reads LCDC bit 4 only (R183). -/
theorem tileAddress_congr {l l' : Byte} (h : l.getLsbD 4 = l'.getLsbD 4) (index : Byte) :
    tileAddress l index = tileAddress l' index := by
  rw [tileAddress, tileAddress, h]

/-- The color id of a pixel of the frame is read from VRAM, at addresses LCDC bits 3 and 4 select (R182 to R184). -/
theorem State.colorId_congr {s t : State} (h3 : s.lcdc.getLsbD 3 = t.lcdc.getLsbD 3)
    (h4 : s.lcdc.getLsbD 4 = t.lcdc.getLsbD 4) (hvram : ∀ {a : Nat}, InVram a → s.byteAt a = t.byteAt a)
    {x y : Nat} (hx : x < 160) (hy : y < 144) : s.colorId x y = t.colorId x y := by
  have hindex : s.byteAt (mapAddress s.lcdc x y) = t.byteAt (mapAddress t.lcdc x y) := by
    rw [mapAddress_congr h3, hvram (mapAddress_inVram _ hx hy)]
  have hrow : y % 8 * 2 + 1 < 16 := by omega
  simp only [colorId, hindex, tileAddress_congr h4, Nat.add_assoc, hvram (tileAddress_inVram _ _ hrow),
    hvram (tileAddress_inVram _ _ (Nat.lt_of_succ_lt hrow))]

/-- Settles O59. -/
theorem rendererReadsOnlyVram : Obligations.RendererReadsOnlyVram := by
  intro s t x y h3 h4 hbgp hvram
  by_cases hframe : 0 ≤ x ∧ x < 160 ∧ 0 ≤ y ∧ y < 144
  · have hid := State.colorId_congr h3 h4 (State.byteAt_congr hvram) (x := x.toNat) (y := y.toNat) (by omega) (by omega)
    have hbgp : s.bgp = t.bgp := hbgp
    rw [getPixel_of_frame s hframe, getPixel_of_frame t hframe, State.pixel, State.pixel, hid, hbgp]
  · rw [getPixel_of_not_frame s hframe, getPixel_of_not_frame t hframe]

end Sys2Proof.Machine
end
